-- ==== Sys2Proof/Word.lean ====
section
/-! DEFINITION. The plain values the model is made of: times, bytes, levels of the coordination line. -/

namespace Sys2Proof

/-- A moment or a span, in cycles of the 3.2 MHz fast oscillator, 312.5 ns each (05, Bit timing). -/
abbrev Time := Nat

/-- One byte of the serial status output. -/
abbrev Byte := BitVec 8

/-- A level of the coordination line (R73): dominant reads as the bit 0, recessive as the bit 1. -/
inductive Level where
  | dominant
  | recessive
deriving DecidableEq, Repr

/-- The level that carries a bit value (R73). -/
def Level.ofBool : Bool → Level
  | false => .dominant
  | true => .recessive

/-- The bit value a level is read as (R73). -/
def Level.toBool : Level → Bool
  | .dominant => false
  | .recessive => true

/-- The opposite level, as a stuff bit has it (R80). -/
def Level.flip : Level → Level
  | .dominant => .recessive
  | .recessive => .dominant

end Sys2Proof
end

