-- ==== Sys2Proof/Syntax.lean ====
section
/-! DEFINITION. The commands of the block, one constructor of Instr for each row of spec/opcode_table.json, and the operands
they carry. A command brings with it only what comes from outside the part: levels of pins, samples, the frame that completed. -/

namespace Sys2Proof

/-- A station address, 0 to 63 (00, Units and conventions). -/
abbrev Addr := Fin 64

/-- The debounced mains sense, and the outage flag a notice carries (R23, R162). -/
inductive MainsState where
  | absent
  | present
deriving DecidableEq, Repr

/-- The tempo of the feed rounds (R2). -/
inductive Tempo where
  | fast
  | slow
deriving DecidableEq, Repr

/-- The class of a claim, in rank order (R22). -/
inductive ClaimClass where
  | life
  | call
  | wake
  | keep
  | recover
  | test
  | topup
  | standby
deriving DecidableEq, Repr

/-- The demand level the terminal presents (R136). -/
inductive DemandLevel where
  | idle
  | wanted
  | session
  | emergency
deriving DecidableEq, Repr

/-- The two demand lines, set for a line that reads high; an unconnected terminal reads both low (R136). -/
structure DemandLines where
  high : Bool := false
  low  : Bool := false
deriving DecidableEq, Repr

/-- The fields of a valid opening frame (R24, R77); its class bits are 0 by form. -/
structure Opening where
  addr  : Addr
  tempo : Tempo
  round : BitVec 8
deriving DecidableEq, Repr

/-- The fields of a notice (R23, R77). -/
structure Notice where
  cls      : ClaimClass
  addr     : Addr
  request  : BitVec 8
  estimate : BitVec 12
  outage   : MainsState
deriving DecidableEq, Repr

/-- A frame of the coordination line (R77). -/
inductive Frame where
  | opening (o : Opening)
  | notice (n : Notice)
deriving DecidableEq, Repr

/-- The levels on the pins that a start reads (R108, R136, R159, R161). -/
structure StartPins where
  /-- STRAP15 to STRAP0, STRAP15 most significant (R159). -/
  straps : BitVec 16
  /-- The mains sense (R161 step 4). -/
  mains  : MainsState
  /-- The riser voltage at the start in steps of 10 mV (R108: the riser-low gate's standing). -/
  riser  : Nat
  /-- The demand lines (R134: the demand candidate at the start). -/
  demand : DemandLines
  /-- The ready line, asserted or not (R135). -/
  ready  : Bool
deriving DecidableEq, Repr

/-- The four samples of one measurement event (R111), before saturation. -/
structure Samples where
  /-- Riser voltage, 10 mV. -/
  riserVoltage : Nat
  /-- Riser current, 5 mA. -/
  riserCurrent : Nat
  /-- Battery voltage, 1 mV. -/
  battVoltage  : Nat
  /-- Battery current, 1 mA, positive for discharge. -/
  battCurrent  : Int
deriving DecidableEq, Repr

/-- The commands of the block: the rows of spec/opcode_table.json in their order. -/
inductive Instr where
  | supplyDipReset
  | retainedStoreLoss
  | start (pins : StartPins)
  | fastOscillatorStable
  | mainsSenseChange (level : MainsState)
  | mainsFail
  | mainsReturn
  | openingFrame (o : Opening)
  | notice (n : Notice)
  | roundTimerExpiry
  | joinTimerExpiry
  | roundTimerLead
  | lineEdgeWake
  | closeEvent
  | shareComputationComplete
  | loweringPoint
  | raisingPoint
  | mutedReportPoint
  | roundAgeLimit
  | lineIdle
  | loseArbitration
  | frameError
  | errorDelimiterEnd
  | extraWaitExpiry
  | dominantTimeout
  | lineStuck
  | lineStuckClear
  | returnFromOffline
  | measurementEvent (m : Samples)
  | bandEvaluation
  | settleEnd
  | loadEnd
  | testDone
  | resistanceComputed
  | testDue
  | peakLimit
  | persistLatch
  | intervalTimerExpiry
  | riserLowGateShut
  | riserLowGateOpen
  | riserHighLatch
  | railLimit
  | railHigh
  | demandLinesChange (lines : DemandLines)
  | demandLevelTaken
  | readySeen
  | readyLost
  | bootTimeout
  | retryWaitExpiry
  | idleTimerExpiry
  | keepAliveTime
  | statusFrameEnd
  | repeatTimerExpiry
  | enterSleep
  | startBitEdge
  | switchingPeriodStart
  | onTimeEnd
deriving DecidableEq, Repr

end Sys2Proof
end

