-- ==== Sys2Proof/Decode.lean ====
section
/-! DEFINITION. Reading a command from a word. spec/opcode_table.json gives none of its rows bits, so no word spells a command
(log 31). The bit coding of frames on the coordination line stands in Machine/LineCode.lean. -/

namespace Sys2Proof

/-- The command that a word spells by the table's bits: none, since no row of the table has bits (log 31). -/
def decodeTableWord (_nbits _w : Nat) : Option Instr :=
  none

end Sys2Proof
end

