-- ==== Sys2Proof/Machine/State.lean ====
section
/-! DEFINITION. The state of the block: everything the spec gives it, block by block, as plain data. The value that stands beside
a field is its start value (R1, R39, R55, R72, R91, R108, R125, R134, R149, R166); State.reset is built from them. -/

namespace Sys2Proof.Machine

/-! ### Supply controller -/

/-- Whether the part is in reset or running (R160). -/
inductive Power where
  | reset
  | running
deriving DecidableEq, Repr

/-- The cause of the last start, or the cause marked while in reset (R160, R161). -/
inductive StartCause where
  | cold
  | dip
deriving DecidableEq, Repr

/-- The fast oscillator (R163); `starting since` holds the moment it was started. -/
inductive Oscillator where
  | stopped
  | starting (since : Time)
  | stable
deriving DecidableEq, Repr

/-- How far the status frame asked for before sleep has come (R164): not asked for, waiting behind a frame in progress or for the
oscillator, being sent, sent. -/
inductive SleepFrame where
  | none
  | waiting
  | sending
  | sent
deriving DecidableEq, Repr

/-- The supply controller (11, Supply controller state). -/
structure SupplyState where
  power          : Power := .reset
  cause          : StartCause := .cold
  /-- The strap word as read at the last start (R159). -/
  strapWord      : BitVec 16 := 0
  mains          : MainsState := .absent
  /-- The level now on the mains sense, and since when it has stood (R162). -/
  mainsCandidate : MainsState := .absent
  mainsSince     : Time := 0
  /-- The outage onset time, or none (R161, R162). -/
  onset          : Option Time := none
  oscillator     : Oscillator := .stopped
  asleep         : Bool := false
  sleepRequest   : Bool := false
  sleepFrame     : SleepFrame := .none
  /-- When the part last woke, none before its first wake after a start (R165: two wake sources at one moment). -/
  wokeAt         : Option Time := none
deriving DecidableEq, Repr

/-- Levels of input pins that no block's own state table holds. -/
structure PinState where
  /-- TRDY asserted (R135). -/
  ready      : Bool := false
  /-- The comparator of R122 stands tripped: the riser is above 60.00 V. -/
  riserHigh  : Bool := false
  /-- That comparator's standing in the coming cycles, the next first; it stays as it is where the list has ended (log 7). -/
  riserAhead : List Bool := []
  /-- The levels the peers apply to LINE in the coming quanta, the next first; released where the list has ended (log 7). -/
  linePeers  : List Level := []
  /-- The hardware fault that holds the driver dominant (R105) stands in the coming quanta, the next first; it does not where the list has
  ended (log 46). -/
  driverFault : List Bool := []
deriving DecidableEq, Repr

/-! ### Round controller -/

/-- The participation state (R17 to R20). -/
inductive Participation where
  | listen
  | member
  | muted
deriving DecidableEq, Repr

/-- The round controller (01, Round controller state). Round age is the clock less `t0`. -/
structure RoundState where
  participation   : Participation := .listen
  referenced      : Bool := false
  t0              : Time := 0
  tempo           : Tempo := .fast
  number          : BitVec 8 := 0
  adopted         : Bool := false
  missed          : Bool := false
  /-- The round timer's expiry, or none while it is unarmed (R5). -/
  timer           : Option Time := none
  /-- The join timer's expiry, or none while it is stopped (R18). -/
  joinTimer       : Option Time := none
  closePending    : Bool := false
  loweringPending : Bool := false
  raisingPending  : Bool := false
  /-- The lowering point's moment came before the computation completed (R13). -/
  loweringDue     : Bool := false
  /-- The raising point's moment came before the computation completed or the lowering was applied (R13). -/
  raisingDue      : Bool := false
  /-- An early opening left the previous round's lowering to the completion of its computation (R14). -/
  owedLowering    : Bool := false
  /-- t0 + 700 ms of the referenced round has not been reported (R167, the MUTED station's moment). -/
  reportPending   : Bool := false
  lastValid       : Option Time := none
  viewOutage      : Bool := false
deriving DecidableEq, Repr

/-! ### Peer table -/

/-- A claim slot of a peer record (R25). -/
structure Slot where
  cls      : ClaimClass
  request  : Nat
  holdover : Nat
  heard    : Bool
deriving DecidableEq, Repr

/-- A peer record (R25). -/
structure PeerRecord where
  feed      : Option Slot := none
  charge    : Option Slot := none
  estimate  : Nat := 0
  outage    : MainsState := .absent
  lastHeard : Option (BitVec 8) := none
deriving DecidableEq, Repr

/-- A claim of the round view (R34). -/
structure Claim where
  addr    : Addr
  cls     : ClaimClass
  request : Nat
  heard   : Bool
deriving DecidableEq, Repr

/-- The peer table (R25, R34, R36): the existing records in ascending order of address, the three masks, the round view. -/
structure PeerState where
  records : List (Addr × PeerRecord) := []
  present : BitVec 64 := 0
  heard   : BitVec 64 := 0
  held    : BitVec 64 := 0
  view    : List Claim := []
deriving DecidableEq, Repr

/-! ### Share unit -/

/-- A user of the reciprocal stage (R48). -/
inductive StageUser where
  | share
  | test
deriving DecidableEq, Repr

/-- The share unit (R39). `stage` is the user the reciprocal stage is BUSY for, none while it is FREE. -/
structure ShareState where
  budgetUsed     : Nat := 0
  computedFeed   : Nat := 0
  computedCharge : Nat := 0
  feedGrant      : Nat := 0
  chargeGrant    : Nat := 0
  inFlight       : Bool := false
  stage          : Option StageUser := none
  waiting        : Option StageUser := none
  /-- When a request that found the stage FREE took it, none while it is FREE or serves a request that waited (R48). -/
  stageTaken     : Option Time := none
deriving DecidableEq, Repr

/-! ### Demand former -/

/-- The claims frozen at a snapshot (R55). -/
structure RoundClaims where
  feedClass   : ClaimClass
  feedRequest : Nat
  charge      : Option (ClaimClass × Nat)
  estimate    : Nat
  outage      : MainsState
deriving DecidableEq, Repr

/-- The demand former (R55). -/
structure DemandState where
  /-- The riser sample window, oldest first (R56). -/
  window      : List Nat := []
  lastCharge  : Option ClaimClass := none
  claims      : Option RoundClaims := none
  /-- The round claims standing is OPEN (R70). -/
  claimsOpen  : Bool := false
  carryFormed : Bool := false
deriving DecidableEq, Repr

/-! ### Line controller -/

/-- The line phase (R83). -/
inductive LinePhase where
  | integrating
  | idle
  | frame
  | error
  | gap
deriving DecidableEq, Repr

/-- The station's part in the frame in progress (R72). -/
inductive Role where
  | none
  | receiver
  | transmitter
deriving DecidableEq, Repr

/-- The confinement state (R101). -/
inductive Confinement where
  | active
  | quiet
  | offline
deriving DecidableEq, Repr

/-- The kinds of line error (R92 to R95). -/
inductive ErrorKind where
  | bit
  | stuff
  | check
  | form
deriving DecidableEq, Repr

/-- The kind of error flag (R97). -/
inductive FlagKind where
  | active
  | passive
deriving DecidableEq, Repr

/-- How far an error flag and its delimiter have come (R98, R99): the flag with the run of bits that counts towards its six and
the level of that run, the wait for the first recessive bit, the delimiter with the recessive bits sampled. -/
inductive FlagProgress where
  | flag (run : Nat) (last : Level)
  | waiting
  | delimiter (bits : Nat)
deriving DecidableEq, Repr

/-- The error being flagged and delimited (R91). -/
structure ErrorInHand where
  kind     : ErrorKind
  role     : Role
  flag     : FlagKind
  progress : FlagProgress
deriving DecidableEq, Repr

/-- The QUIET pause after a failed attempt (R102): none, owed from the next idle on, or running to a time. -/
inductive ExtraWait where
  | none
  | owed
  | until (t : Time)
deriving DecidableEq, Repr

/-- The bit position (R72, R74, R76): the cycle of the quantum, the quantum, the lengths of segments A and B of this bit, and whether
a resynchronisation was made since the last sample. -/
structure BitPos where
  cycle    : Nat := 0
  quantum  : Nat := 1
  segA     : Nat := 10
  segB     : Nat := 5
  resynced : Bool := false
deriving DecidableEq, Repr

/-- The line controller (R72, R91). -/
structure LineState where
  phase          : LinePhase := .integrating
  role           : Role := .none
  driver         : Level := .recessive
  bitPos         : Option BitPos := none
  /-- The level seen in the last quantum, for edges. -/
  seen           : Level := .recessive
  recessiveRun   : Nat := 0
  /-- Bits passed in GAP (R83). -/
  gapBits        : Nat := 0
  queue          : List Frame := []
  /-- The falling edge of the start bit of the frame in progress (R87). -/
  frameStart     : Time := 0
  /-- The bits sampled of the frame in progress, from its start bit on. -/
  rxBits         : List Level := []
  txErrors       : Nat := 0
  rxErrors       : Nat := 0
  confinement    : Confinement := .active
  failed         : Nat := 0
  extraWait      : ExtraWait := .none
  error          : Option ErrorInHand := none
  recoveryRuns   : Nat := 0
  recoveryBits   : Nat := 0
  /-- The dominant drive time, in cycles (R105). -/
  driveTime      : Nat := 0
  dominantRun    : Nat := 0
  clearingRun    : Nat := 0
  stuck          : Bool := false
  unheard        : Nat := 0
  unsent         : Nat := 0
deriving DecidableEq, Repr

/-! ### Feed converter -/

/-- The converter state (R113). -/
inductive ConverterMode where
  | idle
  | run
  | held
  | disabled
  | riserAbsent
deriving DecidableEq, Repr

/-- The converter's time base (R109, R110): when the next switching period begins and when the next measurement event falls. -/
structure TimeBase where
  nextPeriod  : Time
  nextMeasure : Time
deriving DecidableEq, Repr

/-- The on-time of the switching period in progress (R109, R117): none was begun, running since a time, ended. -/
inductive OnTime where
  | none
  | running (since : Time)
  | ended
deriving DecidableEq, Repr

/-- The feed converter (R108). -/
structure ConverterState where
  mode           : ConverterMode := .idle
  feedSetpoint   : Nat := 0
  chargeSetpoint : Nat := 0
  timeBase       : Option TimeBase := none
  /-- The riser window, oldest first (R112). -/
  window         : List Nat := []
  peakRun        : Nat := 0
  latchMark      : Bool := false
  latchCount     : Nat := 0
  /-- The interval timer's expiry (R119). -/
  intervalTimer  : Time := 0
  /-- The riser-low gate is shut (R121). -/
  riserLowShut   : Bool := true
  /-- The on-time command in cycles, 0 to 64 (R116). -/
  command        : Nat := 0
  /-- The rail limit ended an on-time in this measurement interval (R116). -/
  railLimited    : Bool := false
  onTime         : OnTime := .none
  gateHigh       : Bool := false
  gateLow        : Bool := false
deriving DecidableEq, Repr

/-! ### Battery monitor -/

/-- The battery band (R126). -/
inductive Band where
  | unrated
  | full
  | good
  | low
  | reserve
  | cutoff
deriving DecidableEq, Repr

/-- A battery switch (R130, R131). -/
inductive Switch where
  | opened
  | closed
deriving DecidableEq, Repr

/-- The battery monitor (R125). -/
structure BatteryState where
  band        : Band := .unrated
  /-- The voltage window, oldest first (R127). -/
  window      : List Nat := []
  evalCount   : Nat := 0
  hold        : Bool := false
  discharge   : Switch := .closed
  charge      : Switch := .opened
  /-- The charge switch's conduction, 0 off to 16 fully on (R132). -/
  conduction  : Nat := 0
  chargeLimit : Nat := 0
deriving DecidableEq, Repr

/-! ### Terminal interface -/

/-- The terminal's power state (R134). -/
inductive TerminalMode where
  | off
  | hold
  | booting
  | active
  | fault
deriving DecidableEq, Repr

/-- Why the terminal is OFF (R134). -/
inductive OffReason where
  | start
  | retry
  | cutoff
  | released
deriving DecidableEq, Repr

/-- The terminal interface (R134). -/
structure TerminalState where
  mode           : TerminalMode := .off
  offReason      : OffReason := .start
  demand         : DemandLevel := .idle
  /-- The level now on the demand lines, and since when it has stood (R136). -/
  candidate      : DemandLevel := .idle
  candidateSince : Time := 0
  wakePending    : Bool := false
  /-- When the boot began, or none while the boot timer is stopped (R140). -/
  bootTimer      : Option Time := none
  wakeMark       : Bool := false
  retryCount     : Nat := 0
  /-- The retry wait timer's expiry, or none while it is stopped (R141). -/
  retryWait      : Option Time := none
  /-- When the idle timer was started, or none while it is stopped (R143). -/
  idleTimer      : Option Time := none
  /-- The next keep-alive time, or none (R147). -/
  keepAlive      : Option Time := none
  deferredHold   : Bool := false
deriving DecidableEq, Repr

/-! ### Test unit -/

/-- The phase of a test in flight (R149). -/
inductive TestPhase where
  | settle
  | load
  | relax
deriving DecidableEq, Repr

/-- The test in flight (R149). -/
structure TestContext where
  phase      : TestPhase
  events     : Nat
  settleVolt : Nat
  settleCurr : Int
  vRest      : Int
  iRest      : Int
  loadVolt   : Nat
  loadCurr   : Int
  vLoad      : Int
  iLoad      : Int
  startBand  : Band
  startTime  : Time
  request    : Nat
deriving DecidableEq, Repr

/-- A finished test that awaits its resistance (R149, R155). -/
structure ResultInHand where
  deltaV    : Nat
  deltaI    : Nat
  startBand : Band
  startTime : Time
deriving DecidableEq, Repr

/-- The kind of a result record (R158). -/
inductive ResultKind where
  | pulse
  | wake
deriving DecidableEq, Repr

/-- The verdict of a result record (R158). -/
inductive Verdict where
  | pass
  | weak
  | fail
  | aborted
  | notCarried
  | badLoad
  | deferred
  | ok
  | timeout
deriving DecidableEq, Repr

/-- A result record (R158). -/
structure ResultRecord where
  kind    : ResultKind
  verdict : Verdict
  value   : Option Nat
  round   : BitVec 8
  band    : Band
deriving DecidableEq, Repr

/-- The test unit (R149). -/
structure TestState where
  schedule   : Option Time := none
  due        : Bool := false
  /-- The carry request stands (R151). -/
  carry      : Bool := false
  carryCount : Nat := 0
  context    : Option TestContext := none
  inHand     : Option ResultInHand := none
  /-- The band at the wake check's beginning, or none while the context is closed (R157). -/
  wakeCheck  : Option Band := none
  /-- The pulse-load gate is on. -/
  gate       : Bool := false
  /-- The result list, newest first (R158). -/
  results    : List ResultRecord := []
deriving DecidableEq, Repr

/-! ### Status reporter -/

/-- A status frame being sent: its captured bytes and the moment its first start bit began (R166, R167). -/
structure StatusFrame where
  bytes : List Byte
  began : Time
deriving DecidableEq, Repr

/-- The status reporter (R166). -/
structure StatusState where
  frame       : Option StatusFrame := none
  pending     : Bool := false
  /-- The repeat timer's expiry, or none while it is stopped (R167). -/
  repeatTimer : Option Time := none
deriving DecidableEq, Repr

end Sys2Proof.Machine

namespace Sys2Proof.Machine

/-- The whole state of the block, with the commands that wait, first in first out. -/
structure State where
  clock   : Time := 0
  supply  : SupplyState := {}
  pins    : PinState := {}
  round   : RoundState := {}
  peers   : PeerState := {}
  share   : ShareState := {}
  demand  : DemandState := {}
  line    : LineState := {}
  conv    : ConverterState := {}
  batt    : BatteryState := {}
  term    : TerminalState := {}
  test    : TestState := {}
  status  : StatusState := {}
  pending : List Instr := []
deriving DecidableEq, Repr

/-- Reasons for which the block would stop with a fault. The spec gives none (log 30): no event it describes stops the part short of
its supply, so this type has no constructor. -/
inductive Fault where
deriving DecidableEq, Repr

/-- Reasons for which a command is refused. -/
inductive Refusal where
  /-- Raised by exec's arm of a command that has no meaning yet; safe, because nothing is then claimed of it. No arm raises it. -/
  | notModelled (mnemonic : String)
deriving DecidableEq, Repr

/-- The block right after reset (R160): the part was unpowered, stands in reset with the start cause COLD, its outputs at rest, every
block at its start values, the pins' levels and the values taken from them as log 4 names them. -/
def State.reset : State := {}

end Sys2Proof.Machine
end

