-- ==== Sys2Proof/Machine/LineCode.lean ====
section
/-! DEFINITION. The bit coding of frames on the coordination line: fields and their order (R77, R78), the check sequence (R79),
stuffing (R80), the receiver that removes it and tests what it samples (R81, R93 to R95), the transmitter's comparison of what it
sends with what it samples (R73, R85, R92), and lengths (R82). -/

namespace Sys2Proof.Machine

/-! ### Fields -/

/-- The `w` lowest bits of `n`, most significant first, as levels (R77). -/
def fieldBits : Nat → Nat → List Level
  | 0, _ => []
  | w + 1, n => Level.ofBool (n.testBit w) :: fieldBits w n

/-- The unsigned number whose bits are given most significant first (R78). -/
def fieldValue (bits : List Level) : Nat :=
  bits.foldl (fun acc b => 2 * acc + b.toBool.toNat) 0

/-- The class value 0 to 7 (R22). -/
def classCode : ClaimClass → Nat
  | .life => 0
  | .call => 1
  | .wake => 2
  | .keep => 3
  | .recover => 4
  | .test => 5
  | .topup => 6
  | .standby => 7

/-- The class of a value of the class field (R22). -/
def classOfCode : Nat → ClaimClass
  | 0 => .life
  | 1 => .call
  | 2 => .wake
  | 3 => .keep
  | 4 => .recover
  | 5 => .test
  | 6 => .topup
  | _ => .standby

/-- The tempo bit: 0 for FAST, 1 for SLOW (R77). -/
def tempoBit : Tempo → Level
  | .fast => .dominant
  | .slow => .recessive

/-- The outage flag bit: 0 for ABSENT, 1 for PRESENT (R77). -/
def outageBit : MainsState → Level
  | .absent => .dominant
  | .present => .recessive

/-- The bits of the arbitration field, positions 1 to 10: kind, class, address (R77). -/
def arbitrationBits : Frame → List Level
  | .opening o => .dominant :: (fieldBits 3 0 ++ fieldBits 6 o.addr.val)
  | .notice n => .recessive :: (fieldBits 3 (classCode n.cls) ++ fieldBits 6 n.addr.val)

/-- The payload bits: tempo and round number, or request, estimate and outage flag (R77). -/
def payloadBits : Frame → List Level
  | .opening o => tempoBit o.tempo :: fieldBits 8 o.round.toNat
  | .notice n => fieldBits 8 n.request.toNat ++ (fieldBits 12 n.estimate.toNat ++ [outageBit n.outage])

/-! ### Check sequence -/

/-- One content bit through the check register (R79). -/
def checkStep (r : BitVec 10) (b : Level) : BitVec 10 :=
  if (b.toBool ^^ r.msb) then (r <<< 1) ^^^ 0x233#10 else r <<< 1

/-- The check register after content bits, from all ones (R79). -/
def checkRegister (content : List Level) : BitVec 10 :=
  content.foldl checkStep 0x3FF#10

/-- The ten check bits over content bits, most significant first (R79). -/
def checkBits (content : List Level) : List Level :=
  fieldBits 10 (checkRegister content).toNat

/-! ### The frame as sent -/

/-- What a sent bit is, as far as the transmitter's tests ask (R85, R86, R92). -/
inductive BitTag where
  /-- A content bit of the arbitration field. -/
  | arbitration
  /-- The acknowledge slot. -/
  | ack
  /-- Any other bit: start, stuff, payload, check, delimiter, end field. -/
  | plain
deriving DecidableEq, Repr

/-- A bit as sent. -/
structure SentBit where
  tag   : BitTag
  level : Level
deriving DecidableEq, Repr

/-- The stuffed region before stuffing: start bit, arbitration field, payload, check sequence (R77). -/
def regionBits (f : Frame) : List SentBit :=
  ⟨.plain, .dominant⟩ ::
    ((arbitrationBits f).map (SentBit.mk .arbitration)
      ++ ((payloadBits f).map (SentBit.mk .plain)
        ++ (checkBits (arbitrationBits f ++ payloadBits f)).map (SentBit.mk .plain)))

/-- Insert a stuff bit of the opposite level after every run of 4 equal bits as sent, stuff bits counted (R80). `last` and `run`
are the level and the length of the run so far. -/
def stuff (last : Level) (run : Nat) : List SentBit → List SentBit
  | [] => []
  | b :: bs =>
    let run' := if b.level = last then run + 1 else 1
    if run' = 4 then b :: ⟨.plain, b.level.flip⟩ :: stuff b.level.flip 1 bs
    else b :: stuff b.level run' bs

/-- The fixed tail as the transmitter sends it: check delimiter, acknowledge slot, acknowledge delimiter, end field (R77, R86). -/
def fixedTail : List SentBit :=
  ⟨.plain, .recessive⟩ :: ⟨.ack, .recessive⟩ :: List.replicate 7 ⟨.plain, .recessive⟩

/-- A frame as its transmitter sends it, bit by bit from the start bit to the end of the end field. -/
def sentBits (f : Frame) : List SentBit :=
  stuff .recessive 0 (regionBits f) ++ fixedTail

/-- The levels the line carries for a frame whose only transmitter is the sender, its acknowledge slot as given. -/
def lineBits (f : Frame) (ack : Level) : List Level :=
  (sentBits f).map fun b => if b.tag = .ack then ack else b.level

/-- The number of bit times a frame occupies, its interframe gap of 3 not counted (R82). -/
def frameLength (f : Frame) : Nat :=
  (sentBits f).length

/-! ### The transmitter's comparison -/

/-- What a transmitter has found by comparing the bits it sent with those it sampled. -/
inductive SendVerdict where
  /-- The frame is under way. -/
  | going
  /-- It sent recessive in the arbitration field and sampled dominant (R85). -/
  | lost
  /-- It sampled a level it did not send elsewhere (R92). -/
  | error
  /-- Every bit was sent and compared. -/
  | complete
deriving DecidableEq, Repr

/-- The transmitter's comparison, bit by bit, up to the first bit that decides (R73, R85, R92). -/
def compareSent : List SentBit → List Level → SendVerdict
  | [], _ => .complete
  | _ :: _, [] => .going
  | w :: ws, b :: bs =>
    if w.level = b then compareSent ws bs
    else
      match w.tag with
      | .ack => compareSent ws bs
      | .arbitration => if w.level = .recessive then .lost else compareSent ws bs
      | .plain => .error

/-! ### The receiver -/

/-- A receiver inside a frame. -/
structure Receiver where
  /-- The bits before stuffing received so far, from the start bit on. -/
  content : List Level := []
  last    : Level := .recessive
  /-- The length of the run of equal bits, stuff bits counted (R81). -/
  run     : Nat := 0
  /-- The bits of the fixed tail sampled so far. -/
  tail    : Nat := 0
  ack     : Level := .recessive
  fault   : Option ErrorKind := none
  done    : Bool := false
deriving DecidableEq, Repr

/-- The number of payload and check bits a kind bit calls for: the stuffed region is 30 bits for OPEN and 42 for NOTICE (R77, R78). -/
def regionLength (content : List Level) : Nat :=
  if content[1]?.getD .dominant = .dominant then 30 else 42

/-- The receiver is still in the stuffed region: bits are missing, or the stuff bit after a last run of 4 is (R81). -/
def Receiver.inRegion (r : Receiver) : Bool :=
  decide (r.content.length < regionLength r.content) || decide (r.run = 4)

/-- The content bits the check sequence covers, from the kind bit to the last payload bit (R79). -/
def Receiver.checked (r : Receiver) : List Level :=
  (r.content.take (regionLength r.content - 10)).drop 1

/-- The check register equals the ten check bits received (R79). -/
def Receiver.checkOk (r : Receiver) : Bool :=
  decide (r.content.drop (regionLength r.content - 10) = checkBits r.checked)

/-- An OPEN frame whose class bits are not 0 (R78, R95). -/
def Receiver.classFault (r : Receiver) : Bool :=
  decide (regionLength r.content = 30) && decide (fieldValue ((r.content.drop 2).take 3) ≠ 0)

/-- One sampled bit in the stuffed region: a fifth equal bit is a stuff error, the bit after a run of 4 is removed (R81, R93). -/
def Receiver.stuffed (r : Receiver) (b : Level) : Receiver :=
  if r.run = 4 then
    if b = r.last then { r with fault := some .stuff } else { r with last := b, run := 1 }
  else
    { r with content := r.content ++ [b], last := b, run := if b = r.last then r.run + 1 else 1 }

/-- One sampled bit of the fixed tail: a dominant delimiter or end-field bit is a form error, and the class fault of an OPEN frame and
a check error are taken at the acknowledge delimiter, so that their flag begins with the end field (R94, R95; log 10). -/
def Receiver.tailBit (r : Receiver) (b : Level) : Receiver :=
  match r.tail with
  | 0 => if b = .dominant then { r with fault := some .form } else { r with tail := 1 }
  | 1 => { r with tail := 2, ack := b }
  | 2 =>
    if b = .dominant then { r with fault := some .form }
    else if r.classFault then { r with fault := some .form }
    else if r.checkOk then { r with tail := 3 }
    else { r with fault := some .check }
  | n + 3 =>
    if b = .dominant then { r with fault := some .form }
    else { r with tail := n + 4, done := decide (n = 5) }

/-- One sampled bit at a receiver; nothing more is decoded after the first error or the end of the frame (R96). -/
def Receiver.step (r : Receiver) (b : Level) : Receiver :=
  if r.fault.isSome || r.done then r
  else if r.inRegion then r.stuffed b
  else r.tailBit b

/-- The receiver after the sampled bits of a frame. -/
def receive (bits : List Level) : Receiver :=
  bits.foldl Receiver.step {}

/-- An address from its six bits (R77). -/
def addrOf (bits : List Level) : Addr :=
  Fin.ofNat 64 (fieldValue bits)

/-- The frame whose content bits, start bit included, are given (R77, R78). -/
def decodeContent (content : List Level) : Frame :=
  if regionLength content = 30 then
    .opening
      { addr := addrOf ((content.drop 5).take 6)
        tempo := if content[11]?.getD .dominant = .dominant then .fast else .slow
        round := BitVec.ofNat 8 (fieldValue ((content.drop 12).take 8)) }
  else
    .notice
      { cls := classOfCode (fieldValue ((content.drop 2).take 3))
        addr := addrOf ((content.drop 5).take 6)
        request := BitVec.ofNat 8 (fieldValue ((content.drop 11).take 8))
        estimate := BitVec.ofNat 12 (fieldValue ((content.drop 19).take 12))
        outage := if content[31]?.getD .dominant = .dominant then .absent else .present }

/-- The frame a receiver has completed without error, if it has (R87). -/
def Receiver.frame (r : Receiver) : Option Frame :=
  if r.done then some (decodeContent r.content) else none

/-- The next bit is the acknowledge slot, and the receiver has found the frame correct up to and including the check delimiter (R86). -/
def Receiver.mayAck (r : Receiver) : Bool :=
  !r.fault.isSome && !r.inRegion && decide (r.tail = 1) && r.checkOk

end Sys2Proof.Machine
end

