-- ==== Sys2Proof/Machine/Operands.lean ====
section
/-! DEFINITION. What operands and pins stand for: spans of time in cycles, the fields of the strap word (R159) and every table that a
strap selects a row of (R59, R62, R117, R126, R132, R133, R140), the saturated samples of a measurement event (R111). -/

namespace Sys2Proof.Machine

/-! ### Spans of time (00, Units and conventions; 05, Bit timing) -/

/-- Milliseconds in cycles of the 3.2 MHz oscillator. -/
def ms (n : Nat) : Time := 3200 * n

/-- Seconds in cycles. -/
def sec (n : Nat) : Time := 3200000 * n

/-- Bit times of 50 µs in cycles. -/
def bitTimes (n : Nat) : Time := 160 * n

/-! ### The strap word (R159) -/

/-- STRAP15 to STRAP10. -/
def strapAddress (w : BitVec 16) : Addr :=
  (w.extractLsb' 10 6).toFin

/-- STRAP9 to STRAP7: the riser rating in feed units. -/
def strapRating (w : BitVec 16) : Nat :=
  match (w.extractLsb' 7 3).toNat with
  | 0 => 500
  | 1 => 750
  | 2 => 1000
  | 3 => 1500
  | 4 => 2000
  | 5 => 2500
  | 6 => 3000
  | _ => 4000

/-- STRAP6, STRAP5: the converter ceiling code. -/
def strapCeilingCode (w : BitVec 16) : Nat :=
  (w.extractLsb' 5 2).toNat

/-- The converter ceiling G_max in feed units. -/
def strapCeiling (w : BitVec 16) : Nat :=
  match strapCeilingCode w with
  | 0 => 40
  | 1 => 80
  | 2 => 120
  | _ => 160

/-- STRAP4, STRAP3: the terminal profile. -/
def strapProfile (w : BitVec 16) : Nat :=
  (w.extractLsb' 3 2).toNat

/-- The battery chemistries (R126). -/
inductive Chemistry where
  | leadAcid
  | lithium
deriving DecidableEq, Repr

/-- STRAP2: the chemistry. -/
def strapChemistry (w : BitVec 16) : Chemistry :=
  if w.getLsbD 2 then .lithium else .leadAcid

/-- STRAP1, STRAP0: the test interval, none for off. -/
def strapTestInterval (w : BitVec 16) : Option Time :=
  match (w.extractLsb' 0 2).toNat with
  | 0 => none
  | 1 => some (sec 7200)
  | 2 => some (sec 14400)
  | _ => some (sec 28800)

/-- The station address strapped. -/
def State.address (s : State) : Addr := strapAddress s.supply.strapWord

/-- B_rated strapped. -/
def State.rating (s : State) : Nat := strapRating s.supply.strapWord

/-- G_max strapped. -/
def State.ceiling (s : State) : Nat := strapCeiling s.supply.strapWord

/-- The terminal profile strapped. -/
def State.profile (s : State) : Nat := strapProfile s.supply.strapWord

/-- The chemistry strapped. -/
def State.chemistry (s : State) : Chemistry := strapChemistry s.supply.strapWord

/-- The test interval strapped. -/
def State.testInterval (s : State) : Option Time := strapTestInterval s.supply.strapWord

/-! ### Terminal profiles (R59, R140) -/

/-- The hold draw h in feed units (R59). -/
def holdDrawOf : Nat → Nat
  | 0 => 2
  | 1 => 3
  | 2 => 4
  | _ => 6

/-- The active draw a in feed units (R59). -/
def activeDrawOf : Nat → Nat
  | 0 => 8
  | 1 => 11
  | 2 => 15
  | _ => 22

/-- The boot draw w in feed units (R59). -/
def bootDrawOf : Nat → Nat
  | 0 => 14
  | 1 => 18
  | 2 => 24
  | _ => 34

/-- The boot limit in seconds (R140). -/
def bootLimitOf : Nat → Nat
  | 0 => 45
  | 1 => 60
  | 2 => 90
  | _ => 120

/-- h of the strapped profile. -/
def State.holdDraw (s : State) : Nat := holdDrawOf s.profile

/-- a of the strapped profile. -/
def State.activeDraw (s : State) : Nat := activeDrawOf s.profile

/-- w of the strapped profile. -/
def State.bootDraw (s : State) : Nat := bootDrawOf s.profile

/-- The boot limit of the strapped profile, in seconds. -/
def State.bootLimit (s : State) : Nat := bootLimitOf s.profile

/-! ### Chemistries -/

/-- The falling edge of a band in mV, its lower boundary (R126); UNRATED and CUTOFF have none. -/
def fallingEdge : Chemistry → Band → Nat
  | .leadAcid, .full => 13000
  | .leadAcid, .good => 12300
  | .leadAcid, .low => 11900
  | .leadAcid, .reserve => 11000
  | .lithium, .full => 13300
  | .lithium, .good => 13000
  | .lithium, .low => 12800
  | .lithium, .reserve => 11600
  | _, .unrated => 0
  | _, .cutoff => 0

/-- The rising edge of a band, 100 mV above its falling edge (R126). -/
def risingEdge (c : Chemistry) (b : Band) : Nat :=
  fallingEdge c b + 100

/-- The request of a charge claim before clamping (R62); a feed class has none. -/
def chargeRequestOf : Chemistry → ClaimClass → Nat
  | .leadAcid, .recover => 30
  | .leadAcid, .topup => 10
  | .lithium, .recover => 40
  | .lithium, .topup => 15
  | _, _ => 0

/-- The chemistry limit of the charge current in mA (R132). -/
def chemistryLimit : Chemistry → Nat
  | .leadAcid => 1500
  | .lithium => 2000

/-- The verdict of a resistance in mΩ (R133). -/
def resistanceVerdict (c : Chemistry) (milliohm : Nat) : Verdict :=
  match c with
  | .leadAcid => if milliohm ≤ 60 then .pass else if milliohm ≤ 120 then .weak else .fail
  | .lithium => if milliohm ≤ 40 then .pass else if milliohm ≤ 80 then .weak else .fail

/-- The peak limit of the switch current in tenths of an ampere (R117): the threshold whose crossing PEAK_LIMIT reports. -/
def State.peakLimit (s : State) : Nat :=
  match strapCeilingCode s.supply.strapWord with
  | 0 => 45
  | 1 => 90
  | 2 => 135
  | _ => 180

/-! ### The terminal lines (R135, R136) -/

/-- The level that the demand lines carry: R136's table. -/
def demandLevelOf (l : DemandLines) : DemandLevel :=
  match l.high, l.low with
  | false, false => .idle
  | false, true => .wanted
  | true, false => .session
  | true, true => .emergency

/-- The power enable line TPWR of a terminal state: R135's table. In reset the state is OFF or FAULT, and the line is off (R160). -/
def TerminalMode.powerEnable : TerminalMode → Bool
  | .off => false
  | .hold => true
  | .booting => true
  | .active => true
  | .fault => false

/-- The hold line THOLD of a terminal state, true for asserted: R135's table. In reset it is released (R160). -/
def TerminalMode.holdLine : TerminalMode → Bool
  | .off => false
  | .hold => true
  | .booting => false
  | .active => false
  | .fault => false

/-- The level on TPWR, which follows the terminal state at the moment that changes (R135). -/
def State.powerEnable (s : State) : Bool := s.term.mode.powerEnable

/-- The level on THOLD, true for asserted, which follows the terminal state at the moment that changes (R135). -/
def State.holdLine (s : State) : Bool := s.term.mode.holdLine

/-! ### Samples (R111) -/

/-- The samples of a measurement event as the converter offers them: each saturates at the ends of its range. -/
def saturate (m : Samples) : Samples :=
  { riserVoltage := min m.riserVoltage 6553
    riserCurrent := min m.riserCurrent 4095
    battVoltage := min m.battVoltage 32767
    battCurrent := max (-16384) (min m.battCurrent 16383) }

end Sys2Proof.Machine
end

