-- ==== Sys2Proof/Machine/Flags.lean ====
section
/-! DEFINITION. Conditions and counts that more than one rule reads: saturating counts, masks, means, the confinement state read from
the counts (R101), periods and limits of the tempo (R2, R5, R16). -/

namespace Sys2Proof.Machine

/-! ### Counts -/

/-- An 8-bit count that stays at 255 once it reaches 255 (R86, R90, R100). -/
def sat255 (n : Nat) : Nat := min n 255

/-! ### Masks of 64 entries (R36) -/

/-- The entry of an address is marked. -/
def maskHas (m : BitVec 64) (a : Addr) : Bool := m.getLsbD a.val

/-- Mark the entry of an address. -/
def maskSet (m : BitVec 64) (a : Addr) : BitVec 64 := m ||| (1#64 <<< a.val)

/-- Clear the entry of an address. -/
def maskClear (m : BitVec 64) (a : Addr) : BitVec 64 := m &&& ~~~(1#64 <<< a.val)

/-- The population count of a mask (R36). -/
def maskCount (m : BitVec 64) : Nat :=
  (List.finRange 64).countP (maskHas m)

/-! ### Windows and means (R56, R112, R127) -/

/-- Add a sample to a window that keeps the `n` most recent, oldest first. -/
def pushWindow (n : Nat) (w : List Nat) (x : Nat) : List Nat :=
  let w' := w ++ [x]
  if w'.length > n then w'.drop 1 else w'

/-- The mean of a window rounded down, none if it is empty. -/
def windowMean (w : List Nat) : Option Nat :=
  if w.isEmpty then none else some (w.sum / w.length)

/-- A riser mean reaches 30.00 V; no mean counts as below (R56, R112). -/
def riserFit (w : List Nat) : Bool :=
  match windowMean w with
  | none => false
  | some v => decide (3000 ≤ v)

/-! ### Conditions of the round (R2, R5, R16) -/

/-- P of a tempo (R2). -/
def period : Tempo → Time
  | .fast => ms 1000
  | .slow => ms 30000

/-- The address skew 2 ms × (address + 1) of the round timer (R5). -/
def State.skew (s : State) : Time := ms (2 * (s.address.val + 1))

/-- The moment `n` ms after t0. -/
def State.roundMoment (s : State) (n : Nat) : Time := s.round.t0 + ms n

/-- The mains state is ABSENT: an outage. -/
def State.inOutage (s : State) : Bool := decide (s.supply.mains = .absent)

/-- The round timer's lead time t0 + P − 20 ms (R5, R165). -/
def State.leadTime (s : State) : Time := s.round.t0 + (period s.round.tempo - ms 20)

/-! ### Conditions of the line (R73, R101) -/

/-- The confinement state the counts read as, OFFLINE's stickiness left to the caller (R101). -/
def confinementOf (tx rx : Nat) : Confinement :=
  if 160 ≤ tx then .offline else if 64 ≤ tx ∨ 64 ≤ rx then .quiet else .active

/-- The driver may be DOMINANT: not OFFLINE, not LISTEN, line-stuck flag clear (R73). -/
def State.mayDrive (s : State) : Bool :=
  decide (s.line.confinement ≠ .offline) && decide (s.round.participation ≠ .listen) && !s.line.stuck

/-- A frame is in progress on the line, from its start bit to the end of its end field or of an error delimiter (R6, R12). DESIGN CHOICE: a
station that is INTEGRATING does not know of one, and none counts as in progress for it (log 42). -/
def LineState.frameInProgress (l : LineState) : Bool :=
  decide (l.phase = .frame) || decide (l.phase = .error)

/-! ### Conditions of the blocks -/

/-- The terminal interface acts: the first band evaluation after the start has been made (R134, R137). UNRATED is the band from a start
until that evaluation and at no other time (R126). -/
def State.acting (s : State) : Bool := decide (s.batt.band ≠ .unrated)

/-- A test is in flight (R149). -/
def State.testInFlight (s : State) : Bool := s.test.context.isSome

/-- The band is FULL or GOOD (R151, R152, R156). -/
def Band.testable : Band → Bool
  | .full => true
  | .good => true
  | _ => false

/-- The terminal is HOLD, or ACTIVE with demand level IDLE (R151, R152). -/
def TerminalState.testable (t : TerminalState) : Bool :=
  decide (t.mode = .hold) || (decide (t.mode = .active) && decide (t.demand = .idle))

/-- The fast oscillator is STABLE (R163). -/
def State.oscStable (s : State) : Bool := decide (s.supply.oscillator = .stable)

end Sys2Proof.Machine
end

