-- ==== Sys2Proof/Machine/PeerTable.lean ====
section
/-! DEFINITION. The peer table's operations: records by address, recording a notice (R27 to R31), the examination at a reference
(R32), view assembly (R33 to R36) and the budget used (R38). -/

namespace Sys2Proof.Machine

/-- A charge class: RECOVER or TOPUP (R22). -/
def isChargeClass : ClaimClass → Bool
  | .recover => true
  | .topup => true
  | _ => false

/-! ### Records by address -/

/-- The record of an address, if it exists. -/
def findRecord (a : Addr) : List (Addr × PeerRecord) → Option PeerRecord
  | [] => none
  | (b, r) :: rest => if a = b then some r else findRecord a rest

/-- Write the record of an address, the list kept in ascending order. -/
def putRecord (a : Addr) (r : PeerRecord) : List (Addr × PeerRecord) → List (Addr × PeerRecord)
  | [] => [(a, r)]
  | (b, x) :: rest =>
    if a = b then (a, r) :: rest
    else if a.val < b.val then (a, r) :: (b, x) :: rest
    else (b, x) :: putRecord a r rest

/-- Remove the record of an address. -/
def removeRecord (a : Addr) (l : List (Addr × PeerRecord)) : List (Addr × PeerRecord) :=
  l.filter fun e => decide (e.1 ≠ a)

/-- A record is present when at least one of its slots is occupied (R25). -/
def PeerRecord.occupied (r : PeerRecord) : Bool :=
  r.feed.isSome || r.charge.isSome

/-- The present mask of the records (R36). -/
def presentMask (l : List (Addr × PeerRecord)) : BitVec 64 :=
  l.foldl (fun m e => if e.2.occupied then maskSet m e.1 else m) 0#64

/-- The station's own record is present: its present-mask entry is marked (R36, R115). -/
def State.ownRecordPresent (s : State) : Bool :=
  maskHas s.peers.present s.address

/-! ### Recording a notice -/

/-- The slot a notice fills (R28, R29): holdover 2, heard; a STANDBY request is taken as 0 (R23). -/
def slotOf (n : Notice) : Slot :=
  { cls := n.cls
    request := if n.cls = .standby then 0 else n.request.toNat
    holdover := 2
    heard := true }

/-- What a notice writes into the record of its address (R27 to R31). `tag` is the round number last heard to be written. -/
def PeerRecord.recorded (r : PeerRecord) (n : Notice) (tag : Option (BitVec 8)) : PeerRecord :=
  let common := { r with estimate := n.estimate.toNat, outage := n.outage, lastHeard := tag }
  if isChargeClass n.cls then
    { common with charge := if n.request = 0 then none else some (slotOf n) }
  else { common with feed := some (slotOf n) }

/-- Record a notice: the record, its heard-mask entry and its present-mask entry (R27 to R31, R36). -/
def PeerState.record (p : PeerState) (n : Notice) (tag : Option (BitVec 8)) : PeerState :=
  let r := ((findRecord n.addr p.records).getD {}).recorded n tag
  { p with
    records := putRecord n.addr r p.records
    heard := maskSet p.heard n.addr
    present := if r.occupied then maskSet p.present n.addr else maskClear p.present n.addr }

/-- Remove the record of an address and clear its present-mask entry (R19, R36). -/
def PeerState.remove (p : PeerState) (a : Addr) : PeerState :=
  { p with records := removeRecord a p.records, present := maskClear p.present a }

/-! ### The examination at a reference (R32) -/

/-- Clear the heard-this-round flag of a slot. -/
def Slot.unheard (s : Slot) : Slot := { s with heard := false }

/-- Clear the heard-this-round flags of a record. -/
def PeerRecord.unheard (r : PeerRecord) : PeerRecord :=
  { r with feed := r.feed.map Slot.unheard, charge := r.charge.map Slot.unheard }

/-- At a reference, every record whose round number last heard is absent or differs from the number just adopted loses its heard flags
and its heard-mask entry (R32). -/
def PeerState.examine (p : PeerState) (number : BitVec 8) : PeerState :=
  { p with
    records := p.records.map fun e => if e.2.lastHeard = some number then e else (e.1, e.2.unheard)
    heard := p.records.foldl (fun m e => if e.2.lastHeard = some number then m else maskClear m e.1) p.heard }

/-! ### View assembly (R33 to R36) -/

/-- The claim a slot brings into the view: heard, or held while holdover is left, or none (R33). -/
def Slot.claim (a : Addr) (s : Slot) : Option Claim :=
  if s.heard then some { addr := a, cls := s.cls, request := s.request, heard := true }
  else if 0 < s.holdover then some { addr := a, cls := s.cls, request := s.request, heard := false }
  else none

/-- The slot after the close event (R33). -/
def Slot.settled (s : Slot) : Option Slot :=
  if s.heard then some { s with heard := false }
  else if 0 < s.holdover then some { s with holdover := s.holdover - 1 }
  else none

/-- The claims of a record, its feed claim before its charge claim (R34). -/
def recordClaims (a : Addr) (r : PeerRecord) : List Claim :=
  (r.feed.bind (Slot.claim a)).toList ++ (r.charge.bind (Slot.claim a)).toList

/-- The record after the close event (R33). -/
def PeerRecord.settled (r : PeerRecord) : PeerRecord :=
  { r with feed := r.feed.bind Slot.settled, charge := r.charge.bind Slot.settled }

/-- The round view of the records: ascending addresses, feed before charge (R34). -/
def assembleView (l : List (Addr × PeerRecord)) : List Claim :=
  l.flatMap fun e => recordClaims e.1 e.2

/-- The held mask of a view: the addresses with a held claim (R36). -/
def heldMask (view : List Claim) : BitVec 64 :=
  view.foldl (fun m c => if c.heard then m else maskSet m c.addr) 0#64

/-- The view outage mark: a claim of the view belongs to a record whose latest outage flag is ABSENT (R3, R35). -/
def outageSeen (l : List (Addr × PeerRecord)) : Bool :=
  l.any fun e => decide (e.2.outage = .absent) && !(recordClaims e.1 e.2).isEmpty

/-- The records after view assembly: settled, those with both slots empty removed (R33, R35). -/
def settleRecords (l : List (Addr × PeerRecord)) : List (Addr × PeerRecord) :=
  (l.map fun e => (e.1, e.2.settled)).filter fun e => e.2.occupied

/-- The peer table after view assembly (R33 to R36). -/
def PeerState.assemble (p : PeerState) : PeerState :=
  let records := settleRecords p.records
  { records := records
    present := presentMask records
    heard := 0
    held := heldMask (assembleView p.records)
    view := assembleView p.records }

/-- The estimates that count towards the budget used: the own one and those of the records marked in the heard mask, 4,095 left out
(R38). The records are those before the empty ones are removed: a withdrawal-only notice's estimate counts. -/
def PeerState.estimates (p : PeerState) (own : Nat) : List Nat :=
  (own :: (p.records.filter fun e => maskHas p.heard e.1).map fun e => e.2.estimate).filter fun e => decide (e ≠ 4095)

/-- The budget used: the least estimate that counts, 0 if there is none (R38). -/
def PeerState.budget (p : PeerState) (own : Nat) : Nat :=
  match p.estimates own with
  | [] => 0
  | e :: es => es.foldl min e

end Sys2Proof.Machine
end

