-- ==== Sys2Proof/Machine/Status.lean ====
section
/-! DEFINITION. The status reporter: the frame's layout (R168, R169), the serial line (R166), when a frame is sent (R167), and the
request for a frame before sleep with the conditions of sleep (R164). -/

namespace Sys2Proof.Machine

/-! ### Codes of the status frame (R168) -/

/-- One byte of a value below 256. -/
def byteOf (n : Nat) : Byte := BitVec.ofNat 8 n

/-- A value of two bytes, the more significant first. -/
def bytePair (n : Nat) : List Byte := [byteOf (n / 256), byteOf n]

/-- The band code, byte 6 bits 2 to 0. -/
def bandCode : Band → Nat
  | .unrated => 0
  | .full => 1
  | .good => 2
  | .low => 3
  | .reserve => 4
  | .cutoff => 5

/-- The converter state code, byte 6 bits 5 to 3. -/
def converterCode : ConverterMode → Nat
  | .idle => 0
  | .run => 1
  | .held => 2
  | .disabled => 3
  | .riserAbsent => 4

/-- The terminal state code, byte 5 bits 2 to 0. -/
def terminalCode : TerminalMode → Nat
  | .off => 0
  | .hold => 1
  | .booting => 2
  | .active => 3
  | .fault => 4

/-- The off reason code, byte 5 bits 6 and 5. -/
def offReasonCode : OffReason → Nat
  | .start => 0
  | .retry => 1
  | .cutoff => 2
  | .released => 3

/-- The demand level code, byte 5 bits 4 and 3. -/
def demandCode : DemandLevel → Nat
  | .idle => 0
  | .wanted => 1
  | .session => 2
  | .emergency => 3

/-- The participation code, byte 3 bits 1 and 0. -/
def participationCode : Participation → Nat
  | .listen => 0
  | .member => 1
  | .muted => 2

/-- The confinement code, byte 3 bits 4 and 3. -/
def confinementCode : Confinement → Nat
  | .active => 0
  | .quiet => 1
  | .offline => 2

/-- The verdict code, byte 20 + 4i bits 3 to 0. -/
def verdictCode : Verdict → Nat
  | .pass => 0
  | .weak => 1
  | .fail => 2
  | .aborted => 3
  | .notCarried => 4
  | .badLoad => 5
  | .deferred => 6
  | .ok => 7
  | .timeout => 8

/-- Byte 2: tempo, start cause, station address. -/
def statusByte2 (s : State) : Nat :=
  (if s.round.tempo = .slow then 128 else 0) + (if s.supply.cause = .dip then 64 else 0) + s.address.val

/-- Byte 3: band hold, line-stuck flag, mains state, confinement, referenced flag, participation. -/
def statusByte3 (s : State) : Nat :=
  128 * s.batt.hold.toNat + 64 * s.line.stuck.toNat + (if s.supply.mains = .present then 32 else 0)
    + 8 * confinementCode s.line.confinement + 4 * s.round.referenced.toNat + participationCode s.round.participation

/-- Byte 5: wake-pending flag, off reason (0 unless OFF), demand level, terminal state. -/
def statusByte5 (s : State) : Nat :=
  128 * s.term.wakePending.toNat + (if s.term.mode = .off then 32 * offReasonCode s.term.offReason else 0)
    + 8 * demandCode s.term.demand + terminalCode s.term.mode

/-- Byte 6: charge switch, discharge switch, converter state, band. -/
def statusByte6 (s : State) : Nat :=
  (if s.batt.charge = .closed then 128 else 0) + (if s.batt.discharge = .closed then 64 else 0)
    + 8 * converterCode s.conv.mode + bandCode s.batt.band

/-- The four bytes of a result record (R168, R169); 65,535 stands for an absent value. -/
def recordBytes (r : ResultRecord) : List Byte :=
  byteOf ((if r.kind = .wake then 128 else 0) + 16 * bandCode r.band + verdictCode r.verdict)
    :: (bytePair (r.value.getD 65535) ++ [r.round])

/-- The twenty fixed bytes of a status frame (R168). -/
def fixedBytes (s : State) : List Byte :=
  [byteOf 0xA5, byteOf (18 + 4 * s.test.results.length), byteOf (statusByte2 s), byteOf (statusByte3 s), s.round.number,
    byteOf (statusByte5 s), byteOf (statusByte6 s)]
  ++ (bytePair s.share.budgetUsed
  ++ [byteOf s.share.feedGrant, byteOf s.share.chargeGrant, byteOf s.conv.feedSetpoint, byteOf s.conv.chargeSetpoint,
    byteOf (maskCount s.peers.present), byteOf (maskCount s.peers.held), byteOf s.line.txErrors, byteOf s.line.rxErrors,
    byteOf s.line.unheard, byteOf s.line.unsent, byteOf s.test.results.length])

/-- A status frame of the station as it stands (R168, R169). -/
def statusBytes (s : State) : List Byte :=
  fixedBytes s ++ s.test.results.flatMap recordBytes

/-! ### The serial line (R166) -/

/-- The last byte of a frame has been sent: each byte takes 10 bit times at 9,600 baud, 10,000 / 3 cycles. -/
def StatusFrame.sent (f : StatusFrame) (now : Time) : Bool :=
  decide (10000 * f.bytes.length ≤ 3 * (now - f.began))

/-- The index of the byte being sent, the next byte to send being the one after it. -/
def StatusFrame.byteIndex (f : StatusFrame) (now : Time) : Nat :=
  3 * (now - f.began) / 10000

/-- The level on TSTAT, true for high: start bit low, 8 data bits least significant first, stop bit high; high at rest (R166). -/
def State.statusLevel (s : State) : Bool :=
  match s.status.frame with
  | none => true
  | some f =>
    let bit := 3 * (s.clock - f.began) / 1000
    match f.bytes[bit / 10]? with
    | none => true
    | some b => if bit % 10 = 0 then false else if bit % 10 = 9 then true else b.getLsbD (bit % 10 - 1)

/-! ### Asking for a frame (R167) -/

/-- Start a frame: the contents are captured, the pending request is cleared, and a sleep frame that waited is this one (R164, R167). -/
def State.startStatus (s : State) : State :=
  { s with
    status := { s.status with frame := some { bytes := statusBytes s, began := s.clock }, pending := false }
    supply := { s.supply with
      sleepFrame := if s.supply.sleepFrame = .waiting then .sending else s.supply.sleepFrame } }

/-- A request for a frame: started at once when none is in progress and the oscillator is STABLE, pending otherwise (R167). -/
def State.requestStatus (s : State) : State :=
  if s.status.frame.isNone && s.oscStable then s.startStatus
  else { s with status := { s.status with pending := true } }

/-- The conditions under which the repeat timer runs (R167). -/
def State.repeatRuns (s : State) : Bool :=
  !s.supply.asleep && s.acting && (decide (s.round.participation = .listen) || !s.round.referenced)

/-- The repeat timer starts when its conditions come to hold and stops when they cease (R167). -/
def State.settleRepeat (s : State) : State :=
  if s.repeatRuns then
    if s.status.repeatTimer.isSome then s
    else { s with status := { s.status with repeatTimer := some (s.clock + ms 1000) } }
  else { s with status := { s.status with repeatTimer := none } }

/-! ### Sleep (R164) -/

/-- All conditions of sleep hold (R164). -/
def State.sleepAllowed (s : State) : Bool :=
  decide (s.supply.mains = .present) && decide (s.round.tempo = .slow) && decide (s.round.participation = .member)
    && s.round.referenced && decide (s.line.phase = .idle) && s.line.queue.isEmpty && decide (s.term.mode = .active)
    && !s.testInFlight && decide (s.clock < s.leadTime)

/-- The sleep request is cleared or given up (R164). -/
def State.clearSleepRequest (s : State) : State :=
  { s with supply := { s.supply with sleepRequest := false, sleepFrame := .none } }

/-- What the supply controller does with a standing sleep request at the end of every command (R164): at the first moment at which every
condition of sleep holds it asks for a status frame; a condition that fails from then on gives that frame up as the sleep frame, the request
stands, and the next moment at which all hold asks for another (log 22). -/
def State.askSleep (s : State) : State :=
  if s.supply.sleepRequest then
    if s.sleepAllowed then
      match s.supply.sleepFrame with
      | .none => ({ s with supply := { s.supply with sleepFrame := .waiting } } : State).requestStatus
      | .waiting => s
      | .sending => s
      | .sent => s
    else { s with supply := { s.supply with sleepFrame := .none } }
  else s

end Sys2Proof.Machine
end

