-- ==== Sys2Proof/Machine/Ops.lean ====
section
/-! DEFINITION. The operations that several commands share, block by block: the charge switch (R131, R132), the result list and the wake
check (R157, R158), the terminal's moves (R135, R139 to R148), the end and abort of a test (R129, R150, R156), the carry request
(R151), the converter's targets and states (R113 to R115, R119). -/

namespace Sys2Proof.Machine

/-- A command acts on a running part, and the supply controller then looks at the conditions of sleep (R164); in reset every block is stopped
(R160), and the command has no effect. -/
def whenRunning (f : State → State) (s : State) : State :=
  if s.supply.power = .running then (f s).askSleep else s

/-! ### Battery switches -/

/-- A charge path is allowed (R131). -/
def State.chargePath (s : State) : Bool :=
  (decide (s.supply.mains = .present)
      && (decide (s.batt.band = .good) || decide (s.batt.band = .low) || decide (s.batt.band = .reserve)
        || decide (s.batt.band = .cutoff)))
    || decide (0 < s.conv.chargeSetpoint)

/-- The charge switch is to be CLOSED (R131). -/
def State.chargeCloses (s : State) : Bool :=
  s.chargePath && decide (s.batt.band ≠ .unrated) && !s.testInFlight

/-- The charge limit in mA (R132). -/
def State.chargeLimitNow (s : State) : Nat :=
  match s.supply.mains with
  | .present => chemistryLimit s.chemistry
  | .absent => min (chemistryLimit s.chemistry) (50 * s.conv.chargeSetpoint)

/-- The monitor re-examines the charge switch and its limit: a closing starts from conduction off, an opening returns to it
(R131, R132; log 32). -/
def State.examineCharge (s : State) : State :=
  if s.chargeCloses then
    { s with batt := { s.batt with
        charge := .closed
        conduction := if s.batt.charge = .closed then s.batt.conduction else 0
        chargeLimit := s.chargeLimitNow } }
  else
    { s with batt := { s.batt with charge := .opened, conduction := 0, chargeLimit := s.chargeLimitNow } }

/-! ### Result list and wake check -/

/-- Place a record at the head of the result list, the oldest removed beyond four (R158). -/
def State.addResult (s : State) (kind : ResultKind) (verdict : Verdict) (value : Option Nat) (band : Band) : State :=
  { s with test := { s.test with
      results := ({ kind := kind, verdict := verdict, value := value, round := s.round.number, band := band }
        :: s.test.results).take 4 } }

/-- The wake check context is closed (R157). -/
def State.closeWakeCheck (s : State) : State :=
  { s with test := { s.test with wakeCheck := none } }

/-- A wake check begins with the band as it stands; an open one is replaced (R157). -/
def State.beginWakeCheck (s : State) : State :=
  { s with test := { s.test with wakeCheck := some s.batt.band } }

/-- The terminal interface hands a TIMEOUT: a record is written with or without an open context, and the context is closed (R157). -/
def State.handTimeout (s : State) : State :=
  (s.addResult .wake .timeout (some (10 * s.bootLimit)) (s.test.wakeCheck.getD s.batt.band)).closeWakeCheck

/-! ### The terminal's moves -/

/-- The terminal enters HOLD: the idle timer stops on leaving ACTIVE (R143), no boot is under way. -/
def State.enterHold (s : State) : State :=
  { s with term := { s.term with mode := .hold, idleTimer := none, bootTimer := none } }

/-- The draw of the terminal's state in feed units (R145): h in HOLD, w in BOOTING, a in ACTIVE. -/
def State.stateDraw (s : State) : Nat :=
  match s.term.mode with
  | .hold => s.holdDraw
  | .booting => s.bootDraw
  | .active => s.activeDraw
  | .off => 0
  | .fault => 0

/-- Forced hold (R144). -/
def State.forcedHold (s : State) : State :=
  if s.inOutage && decide (s.term.mode = .active) && decide (s.batt.band = .reserve)
      && (decide (s.term.demand = .idle) || decide (s.term.demand = .wanted))
      && decide (s.share.feedGrant < s.activeDraw) then s.enterHold
  else s

/-- The condition of cutoff off (R145). -/
def State.cutoffHolds (s : State) : Bool :=
  s.inOutage && decide (s.batt.band = .cutoff)
    && (decide (s.term.mode = .hold) || decide (s.term.mode = .booting) || decide (s.term.mode = .active))
    && decide (s.share.feedGrant < s.stateDraw)

/-- Cutoff off (R145): boot timer and idle timer stop, the retry count becomes 0, the wake check mark is cleared without a result. -/
def State.cutoffOff (s : State) : State :=
  if s.cutoffHolds then
    let s' := { s with term := { s.term with
      mode := .off, offReason := .cutoff, bootTimer := none, idleTimer := none, retryCount := 0, wakeMark := false } }
    if s.term.wakeMark then s'.closeWakeCheck else s'
  else s

/-- The tests of R144 and R145, as they are applied at each change those rules name. -/
def State.powerTests (s : State) : State :=
  s.cutoffOff.forcedHold

/-- The boot time in whole tenths of a second (R140), 1,199 at most (R157). DESIGN CHOICE: the two differ for a ready taken at the boot limit of
120 s itself, before the timeout of that moment (R141), where R157's range is followed (log 47). -/
def bootTenths (began now : Time) : Nat := min 1199 ((now - began) / ms 100)

/-- The terminal enters ACTIVE on a boot that began at a time: boot timer stopped, retry count 0, the boot time handed over if the wake
check mark is set, the idle timer started in an outage with demand IDLE, R144 and R145 applied (R140, R157). -/
def State.enterActive (s : State) (began : Time) : State :=
  let s1 :=
    if s.term.wakeMark then
      (s.addResult .wake .ok (some (bootTenths began s.clock)) (s.test.wakeCheck.getD s.batt.band)).closeWakeCheck
    else s
  State.powerTests { s1 with term := { s1.term with
    mode := .active
    bootTimer := none
    retryCount := 0
    wakeMark := false
    idleTimer := if s.inOutage && decide (s.term.demand = .idle) then some s.clock else none } }

/-- The terminal is taken as come up if the ready line stands asserted while it is BOOTING and the boot timer has not passed the boot limit
(R140); a ready taken at the limit itself, before the timeout of that moment, still counts (R141). -/
def State.bootReady (s : State) : State :=
  match s.term.bootTimer with
  | none => s
  | some began =>
    if s.pins.ready && decide (s.term.mode = .booting) && decide (s.clock - began ≤ sec s.bootLimit) then s.enterActive began
    else s

/-- The terminal enters BOOTING: the boot timer starts from 0, the idle timer stops; a ready line that stands asserted is seen at once
(R135, R140). -/
def State.enterBooting (s : State) : State :=
  State.bootReady { s with term := { s.term with
    mode := .booting, bootTimer := some s.clock, idleTimer := none, retryWait := none } }

/-- A wake may be made at once: a row of R139's table other than the first and the last holds. -/
def State.wakeAllowed (s : State) : Bool :=
  if s.testInFlight then false
  else if s.supply.mains = .present then true
  else
    match s.batt.band with
    | .full => true
    | .good => true
    | .low => true
    | .reserve => decide (s.term.demand = .emergency) || decide (s.bootDraw ≤ s.share.feedGrant)
    | .cutoff => decide (s.bootDraw ≤ s.share.feedGrant)
    | .unrated => false

/-- A wake is made (R139): from HOLD it is a wake check, from OFF or FAULT it is not. -/
def State.makeWake (s : State) : State :=
  if s.term.mode = .hold then
    State.enterBooting (State.beginWakeCheck { s with term := { s.term with wakePending := false, wakeMark := true } })
  else
    State.enterBooting { s with term := { s.term with wakePending := false, wakeMark := false } }

/-- A wake is requested: made at once or left pending (R139). -/
def State.requestWake (s : State) : State :=
  if s.wakeAllowed then s.makeWake else { s with term := { s.term with wakePending := true } }

/-- The gating is applied again to a pending wake (R139). -/
def State.regateWake (s : State) : State :=
  if s.term.wakePending && s.acting && (decide (s.term.mode = .hold) || decide (s.term.mode = .off)) && s.wakeAllowed then s.makeWake
  else s

/-- What the terminal interface does at a change of the feed grant in force, once it acts: R144, R145, and R139 for a pending wake. -/
def State.terminalReacts (s : State) : State :=
  if s.acting then s.powerTests.regateWake else s

/-- The terminal interface reacts if the feed grant in force differs from an earlier value (R50, R139, R144, R145). -/
def State.grantSeen (s : State) (before : Nat) : State :=
  if s.share.feedGrant = before then s else s.terminalReacts

/-- The test unit tells the terminal interface that the test has ended: a deferred hold is made if the terminal is still ACTIVE with
demand IDLE in an outage, and a pending wake is gated (R143, R148). -/
def State.terminalTestEnded (s : State) : State :=
  let s' :=
    if s.term.deferredHold && s.inOutage && decide (s.term.mode = .active) && decide (s.term.demand = .idle) then s.enterHold else s
  State.regateWake { s' with term := { s'.term with deferredHold := false } }

/-! ### Tests -/

/-- The band hold is released if it is set: the voltage window is emptied and the evaluation count is 0 (R129). -/
def State.releaseHold (s : State) : State :=
  if s.batt.hold then { s with batt := { s.batt with hold := false, window := [], evalCount := 0 } } else s

/-- The test in flight ends: gate off, band hold released, context removed, carry request withdrawn, carry count 0; the battery monitor
and the terminal interface are told (R154 to R156). -/
def State.endTest (s : State) : State :=
  let s' := s.releaseHold
  State.terminalTestEnded (State.examineCharge { s' with test := { s'.test with
    gate := false, context := none, carry := false, carryCount := 0 } })

/-- A new next due time is written, or the schedule dropped, and the due flag cleared (R150). -/
def State.setDue (s : State) (next : Option Time) : State :=
  { s with test := { s.test with schedule := next, due := false } }

/-- A test in flight is aborted with a verdict and a next due time; with none in flight nothing happens (R156). DEDUCED: the record is
written after the battery monitor and the terminal interface have been told, in the order in which R156 names the two (log 40). -/
def State.abortTestDue (s : State) (v : Verdict) (next : Option Time) : State :=
  match s.test.context with
  | none => s
  | some c => (s.endTest.addResult .pulse v none c.startBand).setDue next

/-- A test in flight is aborted for a cause other than mains return: the next due time is now + 600 s (R150, R156). -/
def State.abortTest (s : State) (v : Verdict) : State :=
  s.abortTestDue v (some (s.clock + sec 600))

/-- The moment from which the carry request is raised (R151). -/
def State.carryDue (s : State) : Bool :=
  !s.test.carry && s.inOutage && s.test.due && s.term.testable && s.batt.band.testable && s.test.context.isNone
    && s.test.inHand.isNone && (decide (s.conv.mode = .idle) || decide (s.conv.mode = .run))
    && decide (s.round.participation = .member) && s.round.referenced && decide (s.line.confinement ≠ .offline)

/-- The test unit tests the conditions of the carry request (R151). -/
def State.raiseCarry (s : State) : State :=
  if s.carryDue then { s with test := { s.test with carry := true } } else s

/-! ### Converter -/

/-- Row 1 of R115's table holds: MEMBER, referenced, own record present. -/
def State.drawsByGrant (s : State) : Bool :=
  decide (s.round.participation = .member) && s.round.referenced && s.ownRecordPresent

/-- The feed target (R115); the orphan allowance is 4 feed units. -/
def State.feedTarget (s : State) : Nat :=
  if s.drawsByGrant then s.share.feedGrant else 4

/-- The charge target (R115). -/
def State.chargeTarget (s : State) : Nat :=
  if s.drawsByGrant then min s.share.chargeGrant (s.ceiling - s.feedTarget) else 0

/-- Write both setpoints. A sum of 0 sets the on-time command to 0 (R116), and a change of the charge setpoint has the battery monitor
re-examine the charge switch (R131). -/
def State.setSetpoints (s : State) (feed charge : Nat) : State :=
  let s' := { s with conv := { s.conv with
    feedSetpoint := feed
    chargeSetpoint := charge
    command := if feed + charge = 0 then 0 else s.conv.command } }
  if charge = s.conv.chargeSetpoint then s' else s'.examineCharge

/-- The targets are recomputed: in RUN, a setpoint above its target is set to it at once (R115). -/
def State.retarget (s : State) : State :=
  if s.conv.mode = .run then
    s.setSetpoints (min s.conv.feedSetpoint s.feedTarget) (min s.conv.chargeSetpoint s.chargeTarget)
  else s

/-- Both gates are off. A running on-time is ended by it, and the peak run is 0, since its period was not peak-limited (R117). -/
def State.gatesOff (s : State) : State :=
  match s.conv.onTime with
  | .running _ => { s with conv := { s.conv with gateHigh := false, gateLow := false, onTime := .ended, peakRun := 0 } }
  | .none => { s with conv := { s.conv with gateHigh := false, gateLow := false } }
  | .ended => { s with conv := { s.conv with gateHigh := false, gateLow := false } }

/-- The converter enters a state other than RUN: gates off, setpoints 0 (R114). -/
def State.converterStops (s : State) (m : ConverterMode) : State :=
  let s' := s.gatesOff
  ({ s' with conv := { s'.conv with mode := m } } : State).setSetpoints 0 0

/-- The converter leaves RUN for another state, and the test unit is told (R113, R156). -/
def State.leaveRun (s : State) (m : ConverterMode) : State :=
  (s.converterStops m).abortTest .notCarried

/-- The converter enters RUN: setpoints 0, on-time command 0 (R114, R116). A riser that stands above 60.00 V trips its comparator again
at once, and the converter is HELD (R119, R122). DESIGN CHOICE: both gates stay off until the next switching period begins (log 16). -/
def State.enterRun (s : State) : State :=
  let s' := ({ s with conv := { s.conv with mode := .run, command := 0 } } : State).setSetpoints 0 0
  if s.pins.riserHigh then s'.leaveRun .held else s'

/-- The converter enters IDLE: the fault history is cleared (R113). -/
def State.enterIdle (s : State) : State :=
  let s' := s.converterStops .idle
  { s' with conv := { s'.conv with latchMark := false, latchCount := 0, peakRun := 0 } }

/-- A latch interval ends (R119): the consecutive-latch count is settled, the latch mark cleared, a HELD converter released by the
riser-absent mean, the interval timer restarted. -/
def State.intervalBoundary (s : State) : State :=
  let s' := { s with conv := { s.conv with
    latchCount := if s.conv.latchMark then s.conv.latchCount else 0
    latchMark := false
    intervalTimer := s.clock + ms 2000 } }
  if s.conv.mode = .held then
    if riserFit s.conv.window then s'.enterRun
    else { s' with conv := { s'.conv with mode := .riserAbsent } }
  else s'

end Sys2Proof.Machine
end

