-- ==== Sys2Proof/Machine/Line.lean ====
section
/-! DEFINITION. The line controller's operations: what the bits sampled so far show (R85 to R87, R92 to R95), the transmit queue (R88,
R90), offering and starting an attempt (R84, R89), the counts and the confinement state (R100 to R103). -/

namespace Sys2Proof.Machine

/-! ### What the sampled bits show -/

/-- The bits the station sends in its attempt of the head frame. -/
def LineState.sending (l : LineState) : List SentBit :=
  match l.queue with
  | [] => []
  | f :: _ => sentBits f

/-- The transmitter's verdict on the bits sampled so far. -/
def LineState.sendVerdict (l : LineState) : SendVerdict :=
  compareSent l.sending l.rxBits

/-- The receiver's standing on the bits sampled so far. -/
def LineState.receiver (l : LineState) : Receiver :=
  receive l.rxBits

/-- The frame that the station has completed without error to the last bit of its end field, if it has (R87). -/
def LineState.finished (l : LineState) : Option Frame :=
  if l.phase = .frame then
    match l.role with
    | .receiver => l.receiver.frame
    | .transmitter => if l.sendVerdict = .complete then l.queue.head? else none
    | .none => none
  else none

/-- The error that the station has found in the frame in progress, if it has: a bit error at a transmitter, a stuff, check or form error
at a receiver (R92 to R95). -/
def LineState.errorSeen (l : LineState) : Option ErrorKind :=
  if l.phase = .frame then
    match l.role with
    | .receiver => l.receiver.fault
    | .transmitter => if l.sendVerdict = .error then some .bit else none
    | .none => none
  else none

/-- The station is a transmitter that has sent recessive and sampled dominant in the arbitration field (R85). -/
def LineState.arbitrationLost (l : LineState) : Bool :=
  decide (l.phase = .frame) && decide (l.role = .transmitter) && decide (l.sendVerdict = .lost)

/-- The acknowledge slot as sampled (R86): the bit after the stuffed region and the check delimiter. -/
def LineState.ackSampled (l : LineState) : Level :=
  l.receiver.ack

/-! ### The transmit queue -/

/-- A frame of the queue is a notice. -/
def Frame.isNotice : Frame → Bool
  | .opening _ => false
  | .notice _ => true

end Sys2Proof.Machine

namespace Sys2Proof.Machine

/-- The number of notices in a queue (R12, R90). -/
def noticeCount (q : List Frame) : Nat :=
  q.countP Frame.isNotice

/-- The queue gets new contents after frames have left it or come ahead: the failed-attempt count is 0 for a head that is not the one
before (R91). -/
def LineState.withQueue (l : LineState) (q : List Frame) : LineState :=
  { l with queue := q, failed := if q.head? = l.queue.head? then l.failed else 0 }

/-- Frames leave the queue without completing: each notice among them counts in the unsent count (R90). -/
def LineState.dropTo (l : LineState) (q : List Frame) : LineState :=
  { l.withQueue q with unsent := sat255 (l.unsent + (noticeCount l.queue - noticeCount q)) }

/-- The whole queue is cleared (R88, R90). -/
def LineState.clearQueue (l : LineState) : LineState :=
  l.dropTo []

/-- The notices still queued are removed at a close event (R12). -/
def LineState.dropNotices (l : LineState) : LineState :=
  l.dropTo (l.queue.filter fun f => !Frame.isNotice f)

/-- The station's own opening frame is removed when a peer's completes (R8). -/
def LineState.dropOpenings (l : LineState) : LineState :=
  l.withQueue (l.queue.filter Frame.isNotice)

/-- An opening frame is placed at the head unless one is queued already (R6, R88). -/
def LineState.placeOpening (l : LineState) (o : Opening) : LineState :=
  if l.queue.any fun f => !Frame.isNotice f then l else l.withQueue (.opening o :: l.queue)

/-! ### Offering -/

/-- The head frame may be offered (R11, R89); while the oscillator is not STABLE the driver stays recessive (R72). -/
def State.mayOffer (s : State) : Bool :=
  s.oscStable && decide (s.round.participation = .member) && decide (s.line.confinement ≠ .offline) && !s.line.stuck
    && decide (s.line.extraWait = .none)
    && (match s.line.queue with
      | [] => false
      | .opening _ :: _ => true
      | .notice _ :: _ => decide (s.clock < s.roundMoment 600))

/-- A start bit begins: the bit position is that of its synchronisation quantum, the line phase is FRAME, the falling edge is now
(R75, R84). DESIGN CHOICE: that quantum begins anew with the edge, at its cycle 0, so that the quanta that follow are counted from the edge
(log 43). -/
def State.beginFrame (s : State) (r : Role) : State :=
  { s with line := { s.line with
      phase := .frame
      role := r
      driver := if r = .transmitter then .dominant else .recessive
      bitPos := some {}
      seen := .dominant
      gapBits := 0
      frameStart := s.clock
      rxBits := [] } }

/-- The station offers its head frame if its line is IDLE and the frame may be offered: it drives a start bit and is TRANSMITTER
(R84, R89). -/
def State.offer (s : State) : State :=
  if s.line.phase = .idle ∧ s.mayOffer then s.beginFrame .transmitter else s

/-! ### Counts and confinement -/

/-- Entry into OFFLINE (R103): the line is released, the dominant drive time 0 (R105), a transmission abandoned, the queue cleared, the
recovery begun, a test aborted. -/
def State.enterOffline (s : State) : State :=
  let l := s.line.clearQueue
  State.abortTest { s with line := { l with
      confinement := .offline
      driver := .recessive
      driveTime := 0
      role := if s.line.phase = .frame ∧ s.line.role = .transmitter then .receiver else s.line.role
      failed := 0
      extraWait := .none
      recoveryRuns := 0
      recoveryBits := 0 } } .aborted

/-- The confinement state is read again from the counts; a count change does not take a station out of OFFLINE (R101), and the extra
wait is not kept on a return to ACTIVE (R102). -/
def State.readConfinement (s : State) : State :=
  if s.line.confinement = .offline then s
  else
    match confinementOf s.line.txErrors s.line.rxErrors with
    | .offline => s.enterOffline
    | .quiet => { s with line := { s.line with confinement := .quiet } }
    | .active => { s with line := { s.line with
        confinement := .active
        extraWait := if s.line.confinement = .quiet then .none else s.line.extraWait } }

/-- An error taken as transmitter adds 8 to the transmit count, as receiver 1 to the receive count (R100). -/
def State.countError (s : State) (r : Role) : State :=
  State.readConfinement { s with line :=
    match r with
    | .transmitter => { s.line with txErrors := sat255 (s.line.txErrors + 8) }
    | .receiver => { s.line with rxErrors := sat255 (s.line.rxErrors + 1) }
    | .none => s.line }

/-- A frame that completes valid takes 1 from the transmit count of its transmitter, from the receive count of a receiver (R100). -/
def State.countValid (s : State) (own : Bool) : State :=
  State.readConfinement { s with line :=
    if own then { s.line with txErrors := s.line.txErrors - 1 } else { s.line with rxErrors := s.line.rxErrors - 1 } }

/-- A frame completes valid at the station (R83, R86, R87): it leaves the head of the queue if the station was its transmitter, a
recessive acknowledge slot then adds to the unheard count, the counts fall, the line phase is GAP, and the moment is the last valid
completion. -/
def State.completeFrame (s : State) : State :=
  let own := decide (s.line.role = .transmitter)
  let l := if own then { s.line with queue := s.line.queue.tail, failed := 0 } else s.line
  State.countValid { s with
    round := { s.round with lastValid := some s.clock }
    line := { l with
      unheard := if own && decide (s.line.ackSampled = .recessive) then sat255 (l.unheard + 1) else l.unheard
      phase := .gap
      role := .none
      driver := .recessive
      gapBits := 0
      rxBits := [] } } own

end Sys2Proof.Machine
end

