-- ==== Sys2Proof/Machine/Demand.lean ====
section
/-! DEFINITION. The demand former: the feed claim (R58 to R60), the charge claim (R61 to R63), withdrawal (R64, R65), the budget
estimate (R66, R67), the outage flag (R68) and the snapshot that freezes and queues them (R57, R69). -/

namespace Sys2Proof.Machine

/-- V̄ in steps of 10 mV, none for an empty window (R56). -/
def State.riserMean (s : State) : Option Nat :=
  windowMean s.demand.window

/-- Row 2 of R58's table does not hold: the converter is neither DISABLED nor RISER-ABSENT and V̄ is 30.00 V or above. -/
def State.canDraw (s : State) : Bool :=
  decide (s.conv.mode ≠ .disabled) && decide (s.conv.mode ≠ .riserAbsent) && riserFit s.demand.window

/-- The feed claim's class and request: the first row of R58's table that holds. -/
def State.feedClaim (s : State) : ClaimClass × Nat :=
  if s.supply.mains = .present then (.standby, 0)
  else if !s.canDraw then (.standby, 0)
  else
    match s.term.mode with
    | .fault => (.standby, 0)
    | .off => if s.term.wakePending then (.wake, s.bootDraw) else (.standby, 0)
    | .booting => if s.term.demand = .emergency then (.life, s.bootDraw) else (.wake, s.bootDraw)
    | .hold =>
      if s.term.wakePending then (.wake, s.bootDraw)
      else if s.test.carry then (.test, s.holdDraw)
      else (.keep, s.holdDraw)
    | .active =>
      match s.term.demand with
      | .emergency => (.life, s.activeDraw)
      | .session => (.call, s.activeDraw)
      | .idle => if s.test.carry then (.test, s.activeDraw) else (.keep, s.activeDraw)
      | .wanted => if s.test.carry then (.test, s.activeDraw) else (.keep, s.activeDraw)

/-- The class of the charge claim by the band, if one is formed (R61). -/
def State.chargeClass (s : State) : Option ClaimClass :=
  if s.inOutage && s.canDraw then
    match s.batt.band with
    | .good => some .topup
    | .low => some .recover
    | .reserve => some .recover
    | .cutoff => some .recover
    | .full => none
    | .unrated => none
  else none

/-- The clamped feed request (R63 step 1). -/
def State.feedRequest (s : State) : Nat :=
  min s.feedClaim.2 s.ceiling

/-- The charge claim after clamping to the room the feed request leaves; a request of 0 drops it (R62, R63). -/
def State.chargeClaim (s : State) : Option (ClaimClass × Nat) :=
  match s.chargeClass with
  | none => none
  | some c =>
    let request := min (chargeRequestOf s.chemistry c) (s.ceiling - s.feedRequest)
    if request = 0 then none else some (c, request)

/-- The charge notice of the snapshot, class and request: a claim, a withdrawal of the last charge class with request 0, or none
(R64); in SLOW tempo with mains PRESENT none is sent (R65). -/
def State.chargeNotice (s : State) : Option (ClaimClass × Nat) :=
  if s.round.tempo = .slow ∧ s.supply.mains = .present then none
  else
    match s.chargeClaim with
    | some c => some c
    | none => s.demand.lastCharge.map fun c => (c, 0)

/-- The percentage of B_rated for a riser mean of 30.00 V or above (R66). -/
def estimatePercent (mean : Nat) : Nat :=
  if 4600 ≤ mean then 100
  else if 4400 ≤ mean then 75
  else if 4200 ≤ mean then 50
  else if 4000 ≤ mean then 25
  else 0

/-- The budget estimate; 4,095 stands for no estimate (R66, R67). -/
def State.budgetEstimate (s : State) : Nat :=
  match s.riserMean with
  | none => 4095
  | some v => if v < 3000 then 4095 else s.rating * estimatePercent v / 100

/-- A notice of the station with a class and a request, its estimate and outage flag those of the snapshot (R68, R69). -/
def State.ownNotice (s : State) (c : ClaimClass) (request : Nat) : Notice :=
  { cls := c
    addr := s.address
    request := BitVec.ofNat 8 request
    estimate := BitVec.ofNat 12 s.budgetEstimate
    outage := s.supply.mains }

/-- The notices a snapshot queues, feed notice first (R69). -/
def State.snapshotNotices (s : State) : List Frame :=
  .notice (s.ownNotice s.feedClaim.1 s.feedRequest)
    :: (s.chargeNotice.toList.map fun c => .notice (s.ownNotice c.1 c.2))

/-- What the test unit settles at a snapshot with the carry request standing, no test in flight and no result in hand: a count of 30
defers the test, a count below 30 rises by 1 (R151). -/
def State.countCarry (s : State) : State :=
  if s.test.carry && s.test.context.isNone && s.test.inHand.isNone then
    if 30 ≤ s.test.carryCount then
      let s' := (s.addResult .pulse .deferred none s.batt.band).setDue (some (s.clock + sec 600))
      { s' with test := { s'.test with carry := false, carryCount := 0 } }
    else { s with test := { s.test with carryCount := s.test.carryCount + 1 } }
  else s

/-- The demand former freezes the claims and places the notices at the tail of the transmit queue (R57, R60, R69). -/
def State.freezeClaims (s : State) : State :=
  { s with
    demand := { s.demand with
      claims := some
        { feedClass := s.feedClaim.1
          feedRequest := s.feedRequest
          charge := s.chargeClaim
          estimate := s.budgetEstimate
          outage := s.supply.mains }
      claimsOpen := true
      lastCharge := s.chargeClaim.map Prod.fst
      carryFormed := decide (s.feedClaim.1 = .test) }
    line := s.line.withQueue (s.line.queue ++ s.snapshotNotices) }

/-- The snapshot (R10, R57): the test unit settles its count, then the claims are frozen on what it leaves (R151). -/
def State.snapshot (s : State) : State :=
  s.countCarry.freezeClaims

/-- The TEST request handed to the test unit at the last snapshot: the feed request if the claim is TEST, 0 otherwise (R60). -/
def State.testRequest (s : State) : Nat :=
  if s.demand.carryFormed then
    match s.demand.claims with
    | none => 0
    | some c => c.feedRequest
  else 0

end Sys2Proof.Machine
end

