-- ==== Sys2Proof/Config.lean ====
section
/-! DEFINITION. What the spec leaves open as a value: constants without a body, of which nothing can be proved. -/

namespace Sys2Proof

/-- FREE VALUE (log 17). R48 lets the reciprocal stage be given D in 1 to 16,383 alone and states no result for any other D.
No use the rules make of the stage presents such a D, so this value is reached from unreachable states only. -/
opaque Config.recipOutside : Nat → Nat

end Sys2Proof
end

