-- ==== Sys2Proof/Machine/Recip.lean ====
section
/-! DEFINITION. The reciprocal stage (R44 to R47). -/

namespace Sys2Proof.Machine

/-- z: the leading zero bits of D written as a 16-bit number (R44). -/
def recipZeros (d : Nat) : Nat := 15 - Nat.log2 d

/-- m: D normalised so that its most significant bit is the top bit of 16 (R44). -/
def recipNormal (d : Nat) : Nat := d * 2 ^ recipZeros d

/-- y0: the seed for a normalised value (R45). -/
def recipSeed (m : Nat) : Nat := 2 ^ 21 / (m / 2048 - 16 + 17)

/-- y1: the seed refined once (R46). -/
def recipRefine (m y0 : Nat) : Nat := y0 * (2 ^ 33 - m * y0) / 2 ^ 32

/-- RECIP(D): q for D in 1 to 16,383 (R44 to R47), a free value for any other D, which R48 does not let the stage be given (log 17). -/
def recip (d : Nat) : Nat :=
  if 1 ≤ d ∧ d ≤ 16383 then
    recipRefine (recipNormal d) (recipSeed (recipNormal d)) * 2 ^ recipZeros d / 256
  else Config.recipOutside d

end Sys2Proof.Machine
end

