-- ==== Sys2Proof/Machine/Share.lean ====
section
/-! DEFINITION. The share computation: the class-ordered fill (R41), the partial class (R42), the own grants (R43), and the use of the
reciprocal stage (R48). -/

namespace Sys2Proof.Machine

/-- How a class is served (R41): its claims are granted nothing, granted in full, or granted a share of the remainder by q. -/
inductive Service where
  | nothing
  | inFull
  | part (remainder q : Nat)
deriving DecidableEq, Repr

/-- The classes that are served, in ascending order; STANDBY never is (R41). -/
def servedClasses : List ClaimClass :=
  [.life, .call, .wake, .keep, .recover, .test, .topup]

/-- D: the sum of the requests of the claims of a class (R41). -/
def classDemand (view : List Claim) (c : ClaimClass) : Nat :=
  ((view.filter fun x => decide (x.cls = c)).map fun x => x.request).sum

/-- The class-ordered fill from a remainder (R41): what each class gets. -/
def fill (view : List Claim) : List ClaimClass → Nat → List (ClaimClass × Service)
  | [], _ => []
  | c :: cs, r =>
    let d := classDemand view c
    if d = 0 then (c, .nothing) :: fill view cs r
    else if d ≤ r then (c, .inFull) :: fill view cs (r - d)
    else if r = 0 then (c :: cs).map fun x => (x, .nothing)
    else (c, .part r (recip d)) :: cs.map fun x => (x, .nothing)

/-- What a class gets in a list of services; nothing if the list does not serve it. -/
def serviceOf (c : ClaimClass) : List (ClaimClass × Service) → Service
  | [] => .nothing
  | (x, v) :: rest => if c = x then v else serviceOf c rest

/-- The grant of a request under a service (R41, R42). -/
def grantUnder (v : Service) (request : Nat) : Nat :=
  match v with
  | .nothing => 0
  | .inFull => request
  | .part r q => request * r * q / 2 ^ 24

/-- The computed grant of a claim of a view under a budget used (R41 to R43). -/
def grantOf (view : List Claim) (budget : Nat) (c : Claim) : Nat :=
  grantUnder (serviceOf c.cls (fill view servedClasses budget)) c.request

/-- The computed grants of a view, in its order (R43). -/
def computeGrants (view : List Claim) (budget : Nat) : List Nat :=
  view.map (grantOf view budget)

/-- The computed grant of the feed claim (or charge claim) of an address, 0 if the view holds none (R43). -/
def grantAt (view : List Claim) (budget : Nat) (a : Addr) (charge : Bool) : Nat :=
  match view.find? fun c => decide (c.addr = a) && decide (isChargeClass c.cls = charge) with
  | none => 0
  | some c => grantOf view budget c

/-- The fill meets a partial class, for which it uses the reciprocal stage (R42, R48). -/
def needsRecip (view : List Claim) (budget : Nat) : Bool :=
  (fill view servedClasses budget).any fun e =>
    match e.2 with
    | .part _ _ => true
    | _ => false

/-- Ask for the reciprocal stage: taken at once if FREE, else the request waits. Of two requests that arrive together at a FREE stage the share
computation's is taken first, whichever command came first (R48). -/
def ShareState.askStage (h : ShareState) (u : StageUser) (now : Time) : ShareState :=
  match h.stage with
  | none => { h with stage := some u, stageTaken := some now }
  | some v =>
    if u = .share ∧ v = .test ∧ h.stageTaken = some now then { h with stage := some .share, waiting := some .test }
    else { h with waiting := some u }

/-- The stage hands q back to its user, and a waiting request is taken (R48). -/
def ShareState.releaseStage (h : ShareState) : ShareState :=
  { h with stage := h.waiting, waiting := none, stageTaken := none }

/-- The share computation starts on a view and a budget used (R40). It asks for the reciprocal stage if its fill meets a partial class;
a request of an earlier computation still served or waiting is kept as this one's. DESIGN CHOICE: it asks here, once, at its start (log 57). -/
def State.startShare (s : State) (budget : Nat) : State :=
  let h := { s.share with budgetUsed := budget, inFlight := true }
  let asked := decide (h.stage = some .share) || decide (h.waiting = some .share)
  { s with share := if needsRecip s.peers.view budget && !asked then h.askStage .share s.clock else h }

/-- The computation completes: the computed own grants are written in one step and the stage is given back (R43, R48, R49). DESIGN CHOICE: q is
handed back here and not before, so that the stage is BUSY for the computation up to its completion (log 57). -/
def State.finishShare (s : State) : State :=
  let h := { s.share with
    computedFeed := grantAt s.peers.view s.share.budgetUsed s.address false
    computedCharge := grantAt s.peers.view s.share.budgetUsed s.address true
    inFlight := false }
  { s with share := if h.stage = some .share then h.releaseStage else h }

end Sys2Proof.Machine
end

