-- ==== Sys2Proof/Machine/Round.lean ====
section
/-! DEFINITION. The round controller's operations: the opening frame's contents (R3), the round timer (R5, R6), the close event (R12),
the lowering and raising of grants with what reads them (R13, R50 to R54), the reference and the early opening (R9, R14), the clearing
events (R16, R19, R53), the sleep and wake of the part (R164, R165). -/

namespace Sys2Proof.Machine

/-! ### Opening frames and the round timer -/

/-- The contents of an opening frame placed now (R3). -/
def State.openingContents (s : State) : Opening :=
  { addr := s.address
    tempo := if s.inOutage || s.round.viewOutage then .fast else .slow
    round := if s.round.adopted then s.round.number + 1 else 0 }

/-- The round timer re-armed after an expiry: now + P + 2 ms × (address + 1) (R6). -/
def State.rearm (s : State) : State :=
  { s with round := { s.round with timer := some (s.clock + period s.round.tempo + s.skew) } }

/-- The last valid completion lies within the 200 ms before now (R6). -/
def State.suppressed (s : State) : Bool :=
  match s.round.lastValid with
  | none => false
  | some v => decide (s.clock ≤ v + ms 200)

/-- What the round controller does at an expiry with no frame in progress, or at the end of the frame it waited for (R6). -/
def State.handleExpiry (s : State) : State :=
  if s.suppressed then State.rearm { s with round := { s.round with missed := true } }
  else if s.line.confinement ≠ .offline ∧ s.line.stuck = false then
    State.offer (State.rearm { s with line := s.line.placeOpening s.openingContents })
  else s.rearm

/-- The round timer of a MEMBER station has expired (R6). -/
def State.timerExpired (s : State) : Bool :=
  decide (s.round.participation = .member)
    && (match s.round.timer with
      | none => false
      | some e => decide (e ≤ s.clock))

/-! ### The close event -/

/-- The station's own estimate for the budget used: the one frozen at the snapshot of the round being closed, 4,095 if the round claims
are not OPEN (R38, R70). -/
def State.ownEstimate (s : State) : Nat :=
  if s.demand.claimsOpen then
    match s.demand.claims with
    | none => 4095
    | some c => c.estimate
  else 4095

/-- The close event (R12): unsent notices are removed and counted, the view and the budget used are formed and the view outage mark
written, the round claims are SPENT, the share computation starts; the converter's targets follow the own record (R37, R115). -/
def State.closeRound (s : State) : State :=
  let s1 := { s with
    line := s.line.dropNotices
    peers := s.peers.assemble
    round := { s.round with closePending := false, viewOutage := outageSeen s.peers.records }
    demand := { s.demand with claimsOpen := false } }
  (s1.startShare (s.peers.budget s.ownEstimate)).retarget

/-- A close event is pending and its time t0 + 600 ms is reached, at a station that forms close events (R12). -/
def State.closeDue (s : State) : Bool :=
  s.round.closePending && !s.round.missed && decide (s.round.participation ≠ .listen) && decide (s.roundMoment 600 ≤ s.clock)

/-- The frame in progress has ended without being taken as a reference: a close event that waited for it occurs (R12), and an expiry
that waited for it is handled (R6). DESIGN CHOICE: of the two, both at this moment, the close event comes first (log 56). -/
def State.frameEnded (s : State) : State :=
  let s' := if s.closeDue then s.closeRound else s
  if s'.timerExpired then s'.handleExpiry else s'

/-! ### Grants in force -/

/-- A lowering is applied (R51): each grant in force above its computed value comes down, the converter's targets follow (R115), the latch
interval ends (R119), a test whose TEST request is no longer covered is aborted (R156), the terminal interface reacts (R50). -/
def State.applyLowering (s : State) : State :=
  let s1 := State.intervalBoundary (State.retarget { s with share := { s.share with
    feedGrant := min s.share.feedGrant s.share.computedFeed
    chargeGrant := min s.share.chargeGrant s.share.computedCharge } })
  let s2 :=
    match s1.test.context with
    | none => s1
    | some c =>
      if s1.share.feedGrant < s.share.feedGrant ∧ s1.share.feedGrant < c.request then s1.abortTest .notCarried else s1
  s2.grantSeen s.share.feedGrant

/-- The grants in force at a raising (R52). -/
def ShareState.raised (h : ShareState) (ceiling : Nat) : ShareState :=
  let feed := max h.feedGrant h.computedFeed
  { h with feedGrant := feed, chargeGrant := min (max h.chargeGrant h.computedCharge) (ceiling - feed) }

/-- A pulse test starts at this raising point (R152). -/
def State.testStarts (s : State) : Bool :=
  s.test.carry && s.test.context.isNone && s.test.inHand.isNone && s.demand.carryFormed
    && decide (s.share.feedGrant = s.testRequest) && s.batt.band.testable && s.term.testable && decide (s.conv.mode = .run)
    && s.inOutage && decide (s.round.participation = .member) && s.round.referenced
    && decide (s.line.confinement ≠ .offline)

/-- The context a test starts with (R152). DESIGN CHOICE: the means stand at 0 until SETTLE and LOAD form them (log 55). -/
def State.newContext (s : State) : TestContext :=
  { phase := .settle, events := 0, settleVolt := 0, settleCurr := 0, vRest := 0, iRest := 0, loadVolt := 0, loadCurr := 0
    vLoad := 0, iLoad := 0, startBand := s.batt.band, startTime := s.clock, request := s.testRequest }

/-- The test unit starts a test if every condition holds; the battery monitor opens the charge switch (R131, R152). -/
def State.startTest (s : State) : State :=
  if s.testStarts then
    State.examineCharge { s with test := { s.test with context := some s.newContext, carryCount := 0 } }
  else s

/-- A raising is applied (R52): the grants in force rise within G_max, the converter's targets and the terminal interface follow, a test
may start (R152), the sleep request is set (R164), a status frame is asked for (R167). DESIGN CHOICE: the terminal interface reacts to the
risen feed grant before the test unit tests its start, so that a wake made here keeps a test from starting (log 25). -/
def State.applyRaising (s : State) : State :=
  let s1 := (State.retarget { s with share := s.share.raised s.ceiling }).grantSeen s.share.feedGrant
  let s2 := s1.startTest.raiseCarry
  State.requestStatus { s2 with supply := { s2.supply with sleepRequest := true, sleepFrame := .none } }

/-- Apply the points whose moment has come, the computation being complete: the lowering first, the raising directly after it (R13). -/
def State.runPoints (s : State) : State :=
  if s.share.inFlight ∨ s.round.closePending then s
  else
    let s1 :=
      if s.round.loweringPending ∧ s.round.loweringDue then
        State.applyLowering { s with round := { s.round with loweringPending := false, loweringDue := false } }
      else s
    if s1.round.raisingPending ∧ s1.round.raisingDue ∧ s1.round.loweringPending = false then
      State.applyRaising { s1 with round := { s1.round with
        raisingPending := false, raisingDue := false, reportPending := false } }
    else s1

/-- Pending lowering and raising points are dropped (R13, R16, R19). -/
def RoundState.dropPoints (r : RoundState) : RoundState :=
  { r with loweringPending := false, raisingPending := false, loweringDue := false, raisingDue := false, owedLowering := false }

/-- Both grants in force are set to 0 (R53), the round claims become SPENT (R70), the sleep request is cleared (R164): what entry into
MUTED and the loss of the reference have in common. The converter, the test unit and the terminal interface follow. -/
def State.clearStanding (s : State) : State :=
  let s1 := State.clearSleepRequest { s with
    round := s.round.dropPoints
    share := { s.share with feedGrant := 0, chargeGrant := 0 }
    demand := { s.demand with claimsOpen := false } }
  (s1.retarget.abortTest .aborted).grantSeen s.share.feedGrant

/-- Entry into MUTED on an address clash (R19): the own record is removed, the queue cleared, the timers stopped. -/
def State.enterMuted (s : State) : State :=
  State.clearStanding { s with
    round := { s.round with participation := .muted, timer := none, joinTimer := none }
    peers := s.peers.remove s.address
    line := s.line.clearQueue }

/-! ### The reference -/

/-- The early opening rule (R14): a pending close event occurs, a pending lowering is applied as soon as the previous round's computation
completes, a pending raising is dropped. A MUTED station signals neither point (R13). DESIGN CHOICE: a lowering that finds the computation
complete, and so is applied at the opening frame itself, is an interval boundary as one at a completion is (R119, log 54). -/
def State.settlePrevious (s : State) : State :=
  let s1 := if s.round.closePending then s.closeRound else s
  let lowering := decide (s.round.participation = .member) && (s.round.loweringPending || s.round.owedLowering)
  let s2 := { s1 with round := s1.round.dropPoints }
  if lowering then
    if s2.share.inFlight then { s2 with round := { s2.round with owedLowering := true } } else s2.applyLowering
  else s2

/-- The first boundary of the grid through t0 that lies at least 10 µs after now (R110). -/
def nextBoundary (t0 now : Time) : Time :=
  t0 + 64 * ((now + 32 - t0 + 63) / 64)

/-- The station's offset after each grid boundary: (address mod 16) × 1.25 µs (R109). -/
def State.switchOffset (s : State) : Time :=
  4 * (s.address.val % 16)

/-- The converter re-aligns its time base to t0 (R110): the next measurement event falls at t0 + 3 ms, and the first switching period begins
the station's offset after the first new boundary. DESIGN CHOICE: a switching period whose old boundary has passed and whose offset has not
yet run out is not begun, and the period in progress, with an on-time that still runs, goes on past the first new boundary until that next
switching period begins (log 39). -/
def State.realign (s : State) : State :=
  match s.conv.timeBase with
  | none => s
  | some _ =>
    let base : TimeBase :=
      { nextPeriod := nextBoundary s.round.t0 s.clock + s.switchOffset
        nextMeasure := s.round.t0 + ms 3 }
    { s with conv := { s.conv with timeBase := some base } }

/-- A valid opening frame is taken as the station's reference (R9), R9's steps in their order; the peer table's examination (R32) comes
before the snapshot, and the carry request is tested once the referenced flag is set (R151). DEDUCED: at a MUTED station that takes an early
opening before t0 + 700 ms, the previous round's status request is dropped as its raising point would be (R14, R167; log 21). -/
def State.takeReference (s : State) (o : Opening) : State :=
  let s1 := ({ s with line := s.line.dropOpenings } : State).settlePrevious
  let s2 := State.clearSleepRequest { s1 with
    round := { s1.round with
      t0 := s1.line.frameStart
      tempo := o.tempo
      number := o.round
      adopted := true
      referenced := true
      missed := false
      timer :=
        if s1.round.participation = .member then some (s1.line.frameStart + period o.tempo + s1.skew) else none }
    peers := s1.peers.examine o.round }
  let s3 := s2.realign.retarget.raiseCarry
  let s4 := if s3.round.participation = .member then s3.snapshot else s3
  { s4 with round := { s4.round with
      closePending := true, loweringPending := true, raisingPending := true, reportPending := true } }

/-! ### Waking -/

/-- A wake (R165): the part is AWAKE, the sleep request cleared, the fast oscillator started, the line integrates with its driver recessive
and its dominant drive time 0 (R72, R83, R105), the battery monitor's window is emptied (R127), the repeat timer starts if the wake brings its
conditions to hold (R167), and the moment is held (log 41). Awake already, nothing happens. -/
def State.wakeUp (s : State) : State :=
  if s.supply.asleep then
    State.settleRepeat { s with
      supply := { s.supply with
        asleep := false, sleepRequest := false, sleepFrame := .none, oscillator := .starting s.clock, wokeAt := some s.clock }
      line := { s.line with
        phase := .integrating, role := .none, driver := .recessive, driveTime := 0, recessiveRun := 0, gapBits := 0, bitPos := none
        rxBits := [] }
      batt := { s.batt with window := [], evalCount := 0 } }
  else s

end Sys2Proof.Machine
end

