-- ==== Sys2Proof/Machine/SupplyCommands.lean ====
section
/-! DEFINITION. The commands of the supply controller: reset and starts (R160, R161), oscillator (R163), mains (R162), sleep and wake
(R164, R165). -/

namespace Sys2Proof.Machine

/-- What a command answers. -/
abbrev Result := Host.Outcome State Fault Refusal

/-! ### Reset and starts -/

/-- The part in reset (R160): every block stopped at its start values with its outputs at rest, the retained store kept: the result list
and a terminal state of FAULT (log 5). -/
def State.inReset (s : State) : State :=
  { clock := s.clock
    supply := { cause := .dip, strapWord := s.supply.strapWord }
    pins := s.pins
    term := { mode := if s.term.mode = .fault then .fault else .off }
    test := { results := s.test.results }
    pending := s.pending }

/-- SUPPLY_DIP_RESET (R160). -/
def execSupplyDipReset (s : State) : Result :=
  .next (whenRunning State.inReset s)

/-- RETAINED_STORE_LOSS (R160): while in reset the retained store, a terminal state of FAULT and the result list, is lost and the start
cause is marked COLD. -/
def execRetainedStoreLoss (s : State) : Result :=
  .next (if s.supply.power = .reset then
      { s with
        supply := { s.supply with cause := .cold }
        term := {}
        test := { s.test with results := [] } }
    else s)

/-- The first keep-alive time of an outage onset: onset + 60 s + address × 15 s (R147). -/
def firstKeepAlive (onset : Time) (a : Addr) : Time :=
  onset + sec 60 + sec (15 * a.val)

/-- The first next due time of an outage onset: onset + 600 s + address × 60 s, none with the interval strap off (R150). -/
def firstDue (onset : Time) (a : Addr) (interval : Option Time) : Option Time :=
  interval.map fun _ => onset + sec 600 + sec (60 * a.val)

/-- A start with the marked cause (R161): every block at its start values, the retained store kept at a DIP start, the straps and the
mains sense read, an outage onset if mains is absent, the join timer and the interval timer running, the fast oscillator started. -/
def State.started (s : State) (p : StartPins) : State :=
  let dip := decide (s.supply.cause = .dip)
  let absent := decide (p.mains = .absent)
  let address := strapAddress p.straps
  { clock := s.clock
    supply :=
      { power := .running
        cause := s.supply.cause
        strapWord := p.straps
        mains := p.mains
        mainsCandidate := p.mains
        mainsSince := s.clock
        onset := if absent then some s.clock else none
        oscillator := .starting s.clock }
    pins :=
      { ready := p.ready, riserHigh := decide (6000 < p.riser), riserAhead := s.pins.riserAhead, linePeers := s.pins.linePeers
        driverFault := s.pins.driverFault }
    round := { tempo := if absent then .fast else .slow, joinTimer := some (s.clock + sec 31) }
    conv := { intervalTimer := s.clock + ms 2000, riserLowShut := decide (p.riser < 3900) }
    term :=
      { mode := if dip && decide (s.term.mode = .fault) then .fault else .off
        candidate := demandLevelOf p.demand
        candidateSince := s.clock
        keepAlive := if absent then some (firstKeepAlive s.clock address) else none }
    test :=
      { results := if dip then s.test.results else []
        schedule := if absent then firstDue s.clock address (strapTestInterval p.straps) else none }
    pending := s.pending }

/-- START (R161): the supply rises above 4.5 V from reset. -/
def execStart (p : StartPins) (s : State) : Result :=
  .next (if s.supply.power = .reset then s.started p else s)

/-! ### The fast oscillator -/

/-- The oscillator becomes STABLE (R163): the line controller integrates, the converter grid begins with the measurement count at 0
(R109), a status frame due meanwhile is sent (R167). DESIGN CHOICE: the bit position begins to run at quantum 1, cycle 0, of this moment
(log 45). -/
def State.oscillatorStable (s : State) : State :=
  let base : TimeBase := { nextPeriod := s.clock + s.switchOffset, nextMeasure := s.clock + ms 1 }
  let s' := { s with
    supply := { s.supply with oscillator := .stable }
    line := { s.line with phase := .integrating, role := .none, bitPos := some {}, seen := .recessive, recessiveRun := 0, rxBits := [] }
    conv := { s.conv with timeBase := some base, onTime := .none } }
  if s'.status.pending && s'.status.frame.isNone then s'.startStatus else s'

/-- FAST_OSCILLATOR_STABLE (R163): STARTING lasts 2 ms. -/
def execFastOscillatorStable (s : State) : Result :=
  .next (whenRunning (fun s =>
    match s.supply.oscillator with
    | .starting since => if since + ms 2 ≤ s.clock then s.oscillatorStable else s
    | .stopped => s
    | .stable => s) s)

/-! ### Mains -/

/-- MAINS_SENSE_CHANGE (R162): the new level becomes the mains candidate and its time starts. -/
def execMainsSenseChange (level : MainsState) (s : State) : Result :=
  .next (whenRunning (fun s =>
    if level = s.supply.mainsCandidate then s
    else { s with supply := { s.supply with mainsCandidate := level, mainsSince := s.clock } }) s)

/-- A candidate that differs from the mains state has stood for a time (R162). -/
def State.mainsStood (s : State) (candidate : MainsState) (span : Time) : Bool :=
  decide (s.supply.mainsCandidate = candidate) && decide (s.supply.mains ≠ candidate)
    && decide (s.supply.mainsSince + span ≤ s.clock)

/-- Mains-fail arming (R15): in SLOW tempo as MEMBER an armed round timer is re-armed to
max(now, t0 + 700 ms) + 50 ms + 2 ms × (address + 1) if that is earlier. -/
def State.mainsFailArming (s : State) : State :=
  if s.round.participation = .member ∧ s.round.tempo = .slow then
    match s.round.timer with
    | none => s
    | some e =>
      { s with round := { s.round with timer := some (min e (max s.clock (s.roundMoment 700) + ms 50 + s.skew)) } }
  else s

/-- What the terminal interface does at the change to ABSENT: the keep-alive schedule is formed (R147); once it acts, the idle timer
starts in ACTIVE with demand IDLE (R143) and R144, R145 and R139 are applied. -/
def State.terminalMainsFail (s : State) : State :=
  let s1 := { s with term := { s.term with keepAlive := some (firstKeepAlive s.clock s.address) } }
  if s.acting then
    let idle := decide (s.term.mode = .active) && decide (s.term.demand = .idle)
    State.terminalReacts { s1 with term := { s1.term with idleTimer := if idle then some s.clock else s1.term.idleTimer } }
  else s1

/-- The mains state becomes ABSENT: an outage onset, handed to the blocks in R162's order. The schedule is formed with a due time that is not
reached yet, so that the due flag is clear (R149, R150), also where it stood for a due time left over from before (log 19). -/
def State.mainsFails (s : State) : State :=
  let s1 := s.wakeUp
  let s2 := ({ s1 with supply := { s1.supply with mains := .absent, onset := some s1.clock } } : State).mainsFailArming
  let s3 := s2.terminalMainsFail
  (s3.setDue (firstDue s3.clock s3.address s3.testInterval)).examineCharge.raiseCarry

/-- MAINS_FAIL (R162): a candidate of absence has stood 100 ms. -/
def execMainsFail (s : State) : Result :=
  .next (whenRunning (fun s => if s.mainsStood .absent (ms 100) then s.mainsFails else s) s)

/-- What the terminal interface does at mains return (R146); before the first band evaluation only the schedule is dropped. -/
def State.terminalMainsReturn (s : State) : State :=
  if s.acting then
    let t := { s.term with keepAlive := none, idleTimer := none, deferredHold := false, wakePending := false }
    let cleared := { s with term := t }
    let fresh := { s with term := { t with retryCount := 0, wakeMark := false } }
    match s.term.mode with
    | .hold => fresh.enterBooting
    | .fault => fresh.enterBooting
    | .off =>
      match s.term.offReason with
      | .cutoff => fresh.enterBooting
      | .released => fresh.enterBooting
      | .retry => cleared.enterBooting
      | .start => cleared
    | .booting => cleared
    | .active => cleared
  else { s with term := { s.term with keepAlive := none } }

/-- What the test unit does at mains return (R150, R156): a test in flight is aborted, the schedule dropped, the due flag and the carry
request cleared, the carry count 0. -/
def State.testMainsReturn (s : State) : State :=
  let s' := s.abortTestDue .aborted none
  { s' with test := { s'.test with schedule := none, due := false, carry := false, carryCount := 0 } }

/-- What the converter does at mains return (R113): IDLE from RUN, HELD or RISER-ABSENT. -/
def State.converterMainsReturn (s : State) : State :=
  match s.conv.mode with
  | .run => s.enterIdle
  | .held => s.enterIdle
  | .riserAbsent => s.enterIdle
  | .idle => s
  | .disabled => s

/-- The mains state becomes PRESENT, handed to the blocks in R162's order. -/
def State.mainsReturns (s : State) : State :=
  let s1 := s.wakeUp
  let s2 := ({ s1 with supply := { s1.supply with mains := .present } } : State).terminalMainsReturn
  s2.testMainsReturn.converterMainsReturn.examineCharge

/-- MAINS_RETURN (R162): a candidate of presence has stood 5 s. -/
def execMainsReturn (s : State) : Result :=
  .next (whenRunning (fun s => if s.mainsStood .present (sec 5) then s.mainsReturns else s) s)

/-! ### Sleep and wake -/

/-- ROUND_TIMER_LEAD (R164, R165): at t0 + P − 20 ms the sleep request is cleared and a sleeping station is woken. -/
def execRoundTimerLead (s : State) : Result :=
  .next (whenRunning (fun s =>
    if s.round.timer.isSome && decide (s.leadTime ≤ s.clock) then s.wakeUp.clearSleepRequest else s) s)

/-- LINE_EDGE_WAKE (R21, R165): a dominant edge wakes a sleeping station, which sets its missed-round mark. An edge at the moment at which
another source has woken the part is handled by its owner too (R165; log 41). -/
def execLineEdgeWake (s : State) : Result :=
  .next (whenRunning (fun s =>
    if s.supply.asleep then
      let s' := s.wakeUp
      { s' with round := { s'.round with missed := true } }
    else if s.supply.wokeAt = some s.clock then { s with round := { s.round with missed := true } }
    else s) s)

/-- The part sleeps (R164): the fast oscillator is STOPPED, the driver recessive with its dominant drive time 0 (R105), nothing is sampled,
the time base stops with the gates off. -/
def State.fallAsleep (s : State) : State :=
  let s' := s.gatesOff.clearSleepRequest
  { s' with
    supply := { s'.supply with asleep := true, oscillator := .stopped }
    line := { s'.line with driver := .recessive, driveTime := 0, bitPos := none }
    conv := { s'.conv with timeBase := none } }

/-- ENTER_SLEEP (R164): the sleep frame has been sent, no other is in progress, and every condition still holds. -/
def execEnterSleep (s : State) : Result :=
  .next (whenRunning (fun s =>
    if s.supply.sleepRequest && decide (s.supply.sleepFrame = .sent) && s.status.frame.isNone && !s.supply.asleep && s.sleepAllowed
    then s.fallAsleep else s) s)

end Sys2Proof.Machine
end

