-- ==== Sys2Proof/Machine/BatteryCommands.lean ====
section
/-! DEFINITION. The band evaluation: the band (R126 to R129), the discharge switch (R130), the end of a test in SETTLE (R156), the
terminal's leaving of the start (R137) and its reaction to a change of band (R139, R144, R145). -/

namespace Sys2Proof.Machine

/-- The target band: the highest whose falling edge the mean reaches, or CUTOFF (R128). -/
def targetBand (c : Chemistry) (mean : Nat) : Band :=
  if fallingEdge c .full ≤ mean then .full
  else if fallingEdge c .good ≤ mean then .good
  else if fallingEdge c .low ≤ mean then .low
  else if fallingEdge c .reserve ≤ mean then .reserve
  else .cutoff

/-- The order of the bands, CUTOFF lowest (R126); UNRATED stands outside it. -/
def bandRank : Band → Nat
  | .unrated => 0
  | .cutoff => 1
  | .reserve => 2
  | .low => 3
  | .good => 4
  | .full => 5

/-- The band one above (R126). -/
def bandAbove : Band → Band
  | .cutoff => .reserve
  | .reserve => .low
  | .low => .good
  | .good => .full
  | .full => .full
  | .unrated => .unrated

/-- The new band by the band in force and the band mean: R128's table. -/
def newBand (c : Chemistry) (band : Band) (mean : Nat) : Band :=
  let target := targetBand c mean
  if band = .unrated then target
  else if bandRank target < bandRank band then target
  else if target = band then band
  else if risingEdge c (bandAbove band) ≤ mean then bandAbove band
  else band

/-- The discharge switch after an evaluation: opened by the one that makes the band CUTOFF, closed by the one that raises it from CUTOFF
(R130). -/
def dischargeAfter (old new : Band) (sw : Switch) : Switch :=
  if new = .cutoff then .opened else if old = .cutoff then .closed else sw

/-- The terminal interface begins to act at the evaluation that ends UNRATED: a terminal OFF with reason START moves, one held in FAULT
stays FAULT (R137). -/
def State.leaveStart (s : State) : State :=
  if s.term.mode = .off ∧ s.term.offReason = .start then
    if s.supply.mains = .present then
      State.enterBooting { s with term := { s.term with retryCount := 0, wakeMark := false } }
    else if s.batt.band = .cutoff then { s with term := { s.term with offReason := .cutoff } }
    else
      let s' := s.enterHold
      if s'.term.demand = .idle then s' else s'.requestWake
  else s

/-- What the terminal interface does at a change of band: from OFF (CUTOFF) to HOLD when the band rises to RESERVE, the wake-pending flag
kept (R145), then R144, R145 and R139. -/
def State.terminalBandChange (s : State) (old : Band) : State :=
  State.terminalReacts
    (if old = .cutoff ∧ s.batt.band = .reserve ∧ s.term.mode = .off ∧ s.term.offReason = .cutoff then s.enterHold else s)

/-- The test unit answers an evaluation in SETTLE that leaves the band other than FULL or GOOD (R156). -/
def State.testBandChange (s : State) : State :=
  match s.test.context with
  | none => s
  | some c => if c.phase = .settle ∧ s.batt.band.testable = false then s.abortTest .aborted else s

/-- A new band takes effect at the evaluation: switches, test unit and terminal interface in one step (R128, R130, R131). -/
def State.setBand (s : State) (band : Band) : State :=
  let old := s.batt.band
  let s1 := { s with batt := { s.batt with band := band, discharge := dischargeAfter old band s.batt.discharge } }
  let s2 := s1.testBandChange.examineCharge
  if old = .unrated then s2.leaveStart.settleRepeat.requestStatus
  else s2.terminalBandChange old

/-- An evaluation that falls due (R127 to R129): the count returns to 0; with the band hold set, or on an emptied window, that is all. -/
def State.evaluated (s : State) : State :=
  let s1 := { s with batt := { s.batt with evalCount := 0 } }
  if s.batt.hold then s1
  else
    match windowMean s.batt.window with
    | none => s1
    | some v =>
      let band := newBand s.chemistry s.batt.band v
      if band = s.batt.band then s1 else (s1.setBand band).raiseCarry

/-- BAND_EVALUATION (R128): the evaluation count has reached 256. No evaluation is made while the part sleeps (R127). -/
def execBandEvaluation (s : State) : Result :=
  .next (whenRunning (fun s => if s.supply.asleep = false ∧ 256 ≤ s.batt.evalCount then s.evaluated else s) s)

end Sys2Proof.Machine
end

