-- ==== Sys2Proof/Machine/ConverterCommands.lean ====
section
/-! DEFINITION. The commands of the feed converter: the measurement event and what each recipient takes from it (R56, R111 to R116,
R127, R132, R153 to R155), the switching period and the events that end an on-time (R109, R116, R117, R123), the persist latch and the
latch interval (R118, R119), the riser guards (R121, R122). -/

namespace Sys2Proof.Machine

/-! ### The measurement event -/

/-- The conduction of a CLOSED charge switch after a battery current sample, charge being negative (R132). -/
def conductionStep (level limit : Nat) (current : Int) : Nat :=
  if (limit : Int) < -current then level - 1
  else if -current < (limit : Int) then min 16 (level + 1)
  else level

/-- What the battery monitor takes (R127, R132): the voltage window, the evaluation count, the charge switch's conduction. -/
def State.batterySample (s : State) (voltage : Nat) (current : Int) : State :=
  { s with batt := { s.batt with
      window := pushWindow 256 s.batt.window voltage
      evalCount := min 256 (s.batt.evalCount + 1)
      conduction :=
        if s.batt.charge = .closed then conductionStep s.batt.conduction s.batt.chargeLimit current else s.batt.conduction } }

/-- The battery voltage collapses under the load (R154): FAIL without a value, the test ended, the next due time start + interval. The record
is written before the blocks are told that the test has ended, the order in which R154 names the two (log 40). -/
def State.collapse (s : State) (c : TestContext) : State :=
  State.endTest ((s.addResult .pulse .fail none c.startBand).setDue (s.testInterval.map fun i => c.startTime + i))

/-- The test in flight goes on with a new context. -/
def State.withContext (s : State) (c : TestContext) : State :=
  { s with test := { s.test with context := some c } }

/-- What the test unit takes while a test is in flight (R153 to R155). A phase whose last event has been counted takes no more
(log 18). -/
def State.testSample (s : State) (voltage : Nat) (current : Int) : State :=
  match s.test.context with
  | none => s
  | some c =>
    match c.phase with
    | .settle =>
      if c.events < 64 then
        if 100 < current.natAbs then s.abortTest .notCarried
        else s.withContext { c with
          events := c.events + 1, settleVolt := c.settleVolt + voltage, settleCurr := c.settleCurr + current }
      else s
    | .load =>
      if c.events < 20 then s.withContext { c with events := c.events + 1 }
      else if c.events < 200 then
        if voltage < fallingEdge s.chemistry .reserve then s.collapse c
        else s.withContext { c with
          events := c.events + 1, loadVolt := c.loadVolt + voltage, loadCurr := c.loadCurr + current }
      else s
    | .relax => if c.events < 500 then s.withContext { c with events := c.events + 1 } else s

/-- The on-time command after a measurement event (R116): down by 1 above the setpoint sum, up by 1 below it unless the rail limit ended
an on-time of the interval, within 0 to 64; 0 for a sum of 0. A feed unit is 20 mA, four steps of the riser current. -/
def commandStep (command sum current : Nat) (railLimited : Bool) : Nat :=
  if sum = 0 then 0
  else if 4 * sum < current then command - 1
  else if current < 4 * sum then (if railLimited then command else min 64 (command + 1))
  else command

/-- The regulation of a RUN converter (R116). -/
def State.regulate (s : State) (current : Nat) : State :=
  { s with conv := { s.conv with
      command := commandStep s.conv.command (s.conv.feedSetpoint + s.conv.chargeSetpoint) current s.conv.railLimited } }

/-- One step of the ramp (R115): each setpoint rises by 4 feed units, no further than its target. -/
def rampStep (setpoint target : Nat) : Nat := min target (setpoint + 4)

/-- The ramps of a RUN converter advance (R115). -/
def State.ramp (s : State) : State :=
  s.setSetpoints (rampStep s.conv.feedSetpoint s.feedTarget) (rampStep s.conv.chargeSetpoint s.chargeTarget)

/-- What the converter takes (R111 to R116, R124): the riser window, the state by the riser-absent mean, regulation and ramps in RUN. -/
def State.converterSample (s : State) (voltage current : Nat) : State :=
  let w := pushWindow 16 s.conv.window voltage
  let s1 := { s with conv := { s.conv with window := w } }
  let s2 :=
    match s.conv.mode with
    | .idle => if s.inOutage then (if riserFit w then s1.enterRun else s1.converterStops .riserAbsent) else s1
    | .run => if riserFit w then (s1.regulate current).ramp else s1.leaveRun .riserAbsent
    | .riserAbsent => if riserFit w then s1.enterRun else s1
    | .held => s1
    | .disabled => s1
  { s2 with conv := { s2.conv with railLimited := false } }

/-- The measurement count moves on: the next event is 50 periods later (R111). -/
def State.nextMeasurement (s : State) (tb : TimeBase) : State :=
  { s with conv := { s.conv with timeBase := some { tb with nextMeasure := tb.nextMeasure + ms 1 } } }

/-- The four samples are offered together, in R111's order: battery monitor, demand former, test unit, converter (log 25). -/
def State.measured (s : State) (tb : TimeBase) (m : Samples) : State :=
  let s1 := (s.nextMeasurement tb).batterySample m.battVoltage m.battCurrent
  let s2 := { s1 with
    pins := { s1.pins with riserHigh := decide (6000 < m.riserVoltage) }
    demand := { s1.demand with window := pushWindow 64 s1.demand.window m.riserVoltage } }
  ((s2.testSample m.battVoltage m.battCurrent).converterSample m.riserVoltage m.riserCurrent).raiseCarry

/-- MEASUREMENT_EVENT (R111): at every 50th period boundary, while the time base runs. -/
def execMeasurementEvent (m : Samples) (s : State) : Result :=
  .next (whenRunning (fun s =>
    match s.conv.timeBase with
    | none => s
    | some tb => if tb.nextMeasure ≤ s.clock then s.measured tb (saturate m) else s) s)

/-! ### Switching -/

/-- The gates at the beginning of a switching period (R109, R116, R121): the high side is turned on in RUN with the riser-low gate open and
an on-time command above 0; with a command of 0 the low side is on for the whole period (log 16). -/
def ConverterState.beginPeriod (c : ConverterState) (now : Time) : ConverterState :=
  if c.mode = .run ∧ c.riserLowShut = false then
    if 0 < c.command then { c with onTime := .running now, gateHigh := true, gateLow := false }
    else { c with onTime := .none, gateHigh := false, gateLow := true }
  else { c with onTime := .none, gateHigh := false, gateLow := false }

/-- The peak run once the period just ended is settled (R117): 0 if that period had no on-time that an event has ended. -/
def ConverterState.settledPeakRun (c : ConverterState) : Nat :=
  match c.onTime with
  | .ended => c.peakRun
  | .none => 0
  | .running _ => 0

/-- SWITCHING_PERIOD_START (R109). -/
def execSwitchingPeriodStart (s : State) : Result :=
  .next (whenRunning (fun s =>
    match s.conv.timeBase with
    | none => s
    | some tb =>
      if tb.nextPeriod ≤ s.clock then
        { s with conv := ConverterState.beginPeriod { s.conv with
            timeBase := some { tb with nextPeriod := tb.nextPeriod + 64 }
            peakRun := s.conv.settledPeakRun } s.clock }
      else s) s)

/-- An on-time runs, and since when (R109). -/
def State.onTimeSince (s : State) : Option Time :=
  match s.conv.mode, s.conv.onTime with
  | .run, .running t => some t
  | _, _ => none

/-- The on-time ends with a peak run: the high-side gate turns off and the low-side gate on for the rest of the period (R109). -/
def State.endOnTime (s : State) (peakRun : Nat) : State :=
  { s with conv := { s.conv with onTime := .ended, gateHigh := false, gateLow := true, peakRun := peakRun } }

/-- ON_TIME_END (R116, R109): the on-time has reached the command, or 18 µs, 57.6 cycles; the period is not peak-limited (R117). -/
def execOnTimeEnd (s : State) : Result :=
  .next (whenRunning (fun s =>
    match s.onTimeSince with
    | none => s
    | some t => if s.conv.command ≤ s.clock - t ∨ 288 ≤ 5 * (s.clock - t) then s.endOnTime 0 else s) s)

/-- PEAK_LIMIT (R117): the switch current is above the peak limit after 400 ns of blanking; the period is peak-limited. -/
def execPeakLimit (s : State) : Result :=
  .next (whenRunning (fun s =>
    match s.onTimeSince with
    | none => s
    | some t => if 4000 ≤ 3125 * (s.clock - t) then s.endOnTime (min 32 (s.conv.peakRun + 1)) else s) s)

/-- RAIL_LIMIT (R116): the rail reaches 14.40 V during an on-time; the command is not raised at the next event. -/
def execRailLimit (s : State) : Result :=
  .next (whenRunning (fun s =>
    match s.onTimeSince with
    | none => s
    | some _ =>
      let s' := s.endOnTime 0
      { s' with conv := { s'.conv with railLimited := true } }) s)

/-- RAIL_HIGH (R123): the rail exceeds 15.00 V during an on-time. -/
def execRailHigh (s : State) : Result :=
  .next (whenRunning (fun s =>
    match s.onTimeSince with
    | none => s
    | some _ => s.endOnTime 0) s)

/-! ### Latches and guards -/

/-- The persist latch (R118): peak run 0, latch mark set, the count raised; HELD below 3, DISABLED at 3. -/
def State.latches (s : State) : State :=
  let n := min 3 (s.conv.latchCount + 1)
  State.leaveRun { s with conv := { s.conv with peakRun := 0, latchMark := true, latchCount := n } }
    (if n = 3 then .disabled else .held)

/-- PERSIST_LATCH (R118): the peak run has reached 32. -/
def execPersistLatch (s : State) : Result :=
  .next (whenRunning (fun s => if s.conv.mode = .run ∧ 32 ≤ s.conv.peakRun then s.latches else s) s)

/-- INTERVAL_TIMER_EXPIRY (R119): 2,000 ms have passed with no boundary. DESIGN CHOICE: the interval timer runs on, and its expiry is taken, also
while the part sleeps or its fast oscillator starts (log 51). -/
def execIntervalTimerExpiry (s : State) : Result :=
  .next (whenRunning (fun s => if s.conv.intervalTimer ≤ s.clock then s.intervalBoundary.raiseCarry else s) s)

/-- RISER_LOW_GATE_SHUT (R121): in RUN the high-side gate turns off at once, which sets the peak run to 0 (R117); the converter state
stays. -/
def execRiserLowGateShut (s : State) : Result :=
  .next (whenRunning (fun s =>
    if s.conv.riserLowShut then s
    else State.gatesOff { s with conv := { s.conv with riserLowShut := true } }) s)

/-- RISER_LOW_GATE_OPEN (R121): switching resumes from the next switching period. -/
def execRiserLowGateOpen (s : State) : Result :=
  .next (whenRunning (fun s => { s with conv := { s.conv with riserLowShut := false } }) s)

/-- RISER_HIGH_LATCH (R122): in RUN the converter becomes HELD, latch mark and count left as they are; in any other state nothing is
latched. The comparator's standing is kept for the next entry into RUN (log 15). -/
def execRiserHighLatch (s : State) : Result :=
  .next (whenRunning (fun s =>
    let s' := { s with pins := { s.pins with riserHigh := true } }
    if s.conv.mode = .run then s'.leaveRun .held else s') s)

end Sys2Proof.Machine
end

