-- ==== Sys2Proof/Machine/LineCommands.lean ====
section
/-! DEFINITION. The commands of the line controller: idle and start bits (R75, R83, R84), arbitration (R85), errors, flags and delimiters
(R96 to R99), confinement (R102 to R104), the guards against a held line (R105, R106). -/

namespace Sys2Proof.Machine

/-! ### Idle and start bits -/

/-- The line phase becomes IDLE (R83): an extra wait owed starts to run (R102), the head frame is offered (R84). -/
def State.becomesIdle (s : State) : State :=
  State.offer { s with line := { s.line with
    phase := .idle
    extraWait := if s.line.extraWait = .owed then .until (s.clock + bitTimes 8) else s.line.extraWait } }

/-- The gap's 3 bits have passed (R83): three have been sampled in GAP, and the third has ended. -/
def LineState.gapPassed (l : LineState) : Bool :=
  decide (l.phase = .gap) && decide (3 ≤ l.gapBits)
    && (match l.bitPos with
      | none => false
      | some b => decide (b.quantum ≤ 1 + b.segA))

/-- 9 consecutive recessive bits have been sampled while INTEGRATING (R83). -/
def LineState.integrated (l : LineState) : Bool :=
  decide (l.phase = .integrating) && decide (9 ≤ l.recessiveRun)

/-- LINE_IDLE (R83). -/
def execLineIdle (s : State) : Result :=
  .next (whenRunning (fun s =>
    if s.oscStable && (s.line.integrated || s.line.gapPassed) then s.becomesIdle else s) s)

/-- The error delimiter ends (R99): the line phase is GAP and the role NONE, a head frame with two failed attempts in QUIET is dropped and the
next comes to the head with a count of 0 (R102), and what waited for the frame's end takes place (R6, R12). DESIGN CHOICE: of the drop and a
round timer expiry that waited for this end, both at one moment, the drop is taken first (log 48). -/
def State.delimiterEnds (s : State) : State :=
  let l := { s.line with phase := .gap, role := .none, driver := .recessive, error := none, gapBits := 0, rxBits := [] }
  State.frameEnded { s with line := if 2 ≤ l.failed then { l.dropTo l.queue.tail with failed := 0 } else l }

/-- The recessive bits of the error delimiter sampled so far. -/
def LineState.delimiterBits (l : LineState) : Nat :=
  match l.error with
  | none => 0
  | some e =>
    match e.progress with
    | .delimiter n => n
    | .flag _ _ => 0
    | .waiting => 0

/-- A peer's recessive-to-dominant edge begins a frame (R75, R84): the station joins as transmitter if it has a frame it may offer, else
it receives; a QUIET extra wait ends with the edge (R102). DEDUCED: so does one still owed, when the edge comes in the GAP before the wait has
begun to run (log 11). -/
def State.edgeBegins (s : State) : State :=
  let s1 := s.beginFrame (if s.mayOffer then .transmitter else .receiver)
  { s1 with line := { s1.line with extraWait := .none } }

/-- START_BIT_EDGE (R75, R84, R99): in IDLE or GAP, or in an error delimiter of which at least 3 recessive bits have been sampled, which
the edge ends. -/
def execStartBitEdge (s : State) : Result :=
  .next (whenRunning (fun s =>
    if s.oscStable then
      match s.line.phase with
      | .idle => s.edgeBegins
      | .gap => s.edgeBegins
      | .error => if 3 ≤ s.line.delimiterBits then s.delimiterEnds.edgeBegins else s
      | .integrating => s
      | .frame => s
    else s) s)

/-- LOSE_ARBITRATION (R85): the station releases the line and receives the rest of the winning frame. -/
def execLoseArbitration (s : State) : Result :=
  .next (whenRunning (fun s =>
    if s.line.arbitrationLost then { s with line := { s.line with role := .receiver, driver := .recessive } } else s) s)

/-! ### Errors -/

/-- The flag chosen for an error once its count change is made and the confinement state read again (R97). -/
def State.flagChosen (s : State) : FlagKind :=
  if s.line.confinement = .active ∧ s.mayDrive then .active else .passive

/-- The station takes an error (R96): decoding stops, the counts change (R100), the confinement state is read (R101), a failed attempt in
QUIET is counted and its extra wait owed (R102), the flag is chosen (R97). DESIGN CHOICE: the role is kept during ERROR and becomes NONE when
that phase ends (log 44). -/
def State.takeError (s : State) (k : ErrorKind) : State :=
  let r := s.line.role
  let s1 := State.countError { s with line := { s.line with
    phase := .error, driver := .recessive, rxBits := [], gapBits := 0 } } r
  let failedQuiet := decide (r = .transmitter) && decide (s1.line.confinement = .quiet)
  { s1 with line := { s1.line with
      error := some { kind := k, role := r, flag := s1.flagChosen, progress := .flag 0 .recessive }
      failed := if failedQuiet then min 2 (s1.line.failed + 1) else s1.line.failed
      extraWait := if failedQuiet then .owed else s1.line.extraWait } }

/-- FRAME_ERROR (R96): the error that the sampled bits show is taken. -/
def execFrameError (s : State) : Result :=
  .next (whenRunning (fun s =>
    match s.line.errorSeen with
    | none => s
    | some k => s.takeError k) s)

/-- ERROR_DELIMITER_END (R99): the eighth recessive bit of the delimiter has been sampled. -/
def execErrorDelimiterEnd (s : State) : Result :=
  .next (whenRunning (fun s =>
    if decide (s.line.phase = .error) && decide (8 ≤ s.line.delimiterBits) then s.delimiterEnds else s) s)

/-- EXTRA_WAIT_EXPIRY (R102): the wait of 8 bit times after idle has ended, and the head frame may be offered. -/
def execExtraWaitExpiry (s : State) : Result :=
  .next (whenRunning (fun s =>
    match s.line.extraWait with
    | .until t =>
      if t ≤ s.clock then State.offer { s with line := { s.line with extraWait := .none } } else s
    | .none => s
    | .owed => s) s)

/-! ### Guards and recovery -/

/-- DOMINANT_TIMEOUT (R105): the station's driver has been DOMINANT for more than 24 bit times; it is forced RECESSIVE and the transmit
count raised to 160, which takes the station into OFFLINE (R101, R103). -/
def execDominantTimeout (s : State) : Result :=
  .next (whenRunning (fun s =>
    if decide (s.line.driver = .dominant) && decide (bitTimes 24 < s.line.driveTime) then
      State.readConfinement { s with line := { s.line with
        driver := .recessive, driveTime := 0, txErrors := max s.line.txErrors 160 } }
    else s) s)

/-- The line-stuck condition (R106): the attempt is abandoned, the queue cleared, the flag set, the driver recessive
with its dominant drive time 0 (R105); a close event that waited for the frame
in progress occurs (R12). -/
def State.getsStuck (s : State) : State :=
  let l := s.line.clearQueue
  let s' : State := { s with line := { l with
    stuck := true
    driver := .recessive
    driveTime := 0
    role := if s.line.phase = .frame ∧ s.line.role = .transmitter then .receiver else s.line.role
    clearingRun := 0
    recoveryBits := 0 } }
  if s'.closeDue then s'.closeRound else s'

/-- LINE_STUCK (R106): 400 consecutive dominant samples. -/
def execLineStuck (s : State) : Result :=
  .next (whenRunning (fun s => if decide (400 ≤ s.line.dominantRun) && !s.line.stuck then s.getsStuck else s) s)

/-- LINE_STUCK_CLEAR (R106): 12 consecutive recessive bits; the line phase becomes INTEGRATING. DESIGN CHOICE: a round timer expiry that waited
for the frame whose end is so lost is handled neither here nor dropped: it stands until the next frame's end or the next ROUND_TIMER_EXPIRY
(log 49). -/
def execLineStuckClear (s : State) : Result :=
  .next (whenRunning (fun s =>
    if s.line.stuck && decide (12 ≤ s.line.clearingRun) then
      { s with line := { s.line with
          stuck := false, phase := .integrating, role := .none, driver := .recessive, error := none, recessiveRun := 0
          gapBits := 0, rxBits := [], clearingRun := 0, recoveryBits := 0 } }
    else s) s)

/-- RETURN_FROM_OFFLINE (R104): 64 recovery runs; both counts are 0, and a notice still queued from the round's snapshot is offered at
once on a line that is IDLE (R89, R107; log 12). -/
def execReturnFromOffline (s : State) : Result :=
  .next (whenRunning (fun s =>
    if decide (s.line.confinement = .offline) && decide (64 ≤ s.line.recoveryRuns) then
      State.offer (State.raiseCarry { s with line := { s.line with
        confinement := .active, txErrors := 0, rxErrors := 0, recoveryRuns := 0, recoveryBits := 0 } })
    else s) s)

end Sys2Proof.Machine
end

