-- ==== Sys2Proof/Machine/RoundCommands.lean ====
section
/-! DEFINITION. The commands of the feed round: frames that complete (R9, R18 to R20, R26), timers (R6, R18), the close event (R12), the
computation's completion (R49), the apply points (R13, R51, R52, R167), round age (R16). -/

namespace Sys2Proof.Machine

/-! ### Frames that complete -/

/-- A valid frame that bears the station's address completes without the station as its transmitter (R19, R20): LISTEN and MEMBER enter
MUTED; the frame is neither recorded nor taken, and what waited for its end takes place. DESIGN CHOICE: of the entry into MUTED and a close
event that waited, both at the end of the end field, the entry is taken first (log 50). -/
def State.clash (s : State) : State :=
  State.settleRepeat (State.frameEnded (if s.round.participation = .muted then s else s.enterMuted))

/-- A valid opening frame completes (R8, R9, R18, R19): with the line-stuck flag set it is not taken; LISTEN is left for MEMBER by it. -/
def State.openingCompletes (s : State) (o : Opening) : State :=
  let own := decide (s.line.role = .transmitter)
  let s1 := s.completeFrame
  if !own && decide (o.addr = s1.address) then s1.clash
  else if s1.line.stuck then s1.frameEnded
  else if s1.round.participation = .listen then
    State.settleRepeat
      (State.takeReference { s1 with round := { s1.round with participation := .member, joinTimer := none } } o)
  else State.settleRepeat (s1.takeReference o)

/-- OPENING_FRAME (R9): the opening frame the line controller has completed is handed to the round controller (R87). -/
def execOpeningFrame (o : Opening) (s : State) : Result :=
  .next (whenRunning (fun s => if s.line.finished = some (.opening o) then s.openingCompletes o else s) s)

/-- The round number last heard that a notice recorded now writes (R27). -/
def State.heardTag (s : State) : Option (BitVec 8) :=
  if s.round.referenced && !s.round.missed && s.round.closePending then some s.round.number else none

/-- A valid notice completes (R26): recorded if the station was its transmitter or its address differs from the station's, then what
waited for its end takes place (R6, R12); otherwise it reveals an address clash. -/
def State.noticeCompletes (s : State) (n : Notice) : State :=
  let own := decide (s.line.role = .transmitter)
  let s1 := s.completeFrame
  if !own && decide (n.addr = s1.address) then s1.clash
  else State.frameEnded (State.retarget { s1 with peers := s1.peers.record n s1.heardTag })

/-- NOTICE (R26): the notice the line controller has completed is handed to the round controller (R87). -/
def execNotice (n : Notice) (s : State) : Result :=
  .next (whenRunning (fun s => if s.line.finished = some (.notice n) then s.noticeCompletes n else s) s)

/-! ### Timers -/

/-- ROUND_TIMER_EXPIRY (R6): with a frame in progress the station waits for its end. -/
def execRoundTimerExpiry (s : State) : Result :=
  .next (whenRunning (fun s => if s.timerExpired && !s.line.frameInProgress then s.handleExpiry else s) s)

/-- The station leaves LISTEN unreferenced and arms its round timer with the address skew (R18). -/
def State.joinExpires (s : State) : State :=
  State.retarget { s with round := { s.round with
    participation := .member, joinTimer := none, timer := some (s.clock + s.skew) } }

/-- JOIN_TIMER_EXPIRY (R18). -/
def execJoinTimerExpiry (s : State) : Result :=
  .next (whenRunning (fun s =>
    match s.round.joinTimer with
    | none => s
    | some e => if s.round.participation = .listen ∧ e ≤ s.clock then s.joinExpires else s) s)

/-! ### The close event and the computation -/

/-- CLOSE_EVENT (R12): at t0 + 600 ms if no frame is in progress, or with the line-stuck flag set. DESIGN CHOICE: a flag that was set before
t0 + 600 ms already has the event occur at that time, a frame in progress or not (log 52). -/
def execCloseEvent (s : State) : Result :=
  .next (whenRunning (fun s =>
    if s.closeDue && (!s.line.frameInProgress || s.line.stuck) then s.closeRound else s) s)

/-- The computation completes (R49): a lowering owed to an early opening is applied (R14), then the points that waited (R13). -/
def State.computationCompletes (s : State) : State :=
  let s1 := s.finishShare
  let s2 :=
    if s1.round.owedLowering then State.applyLowering { s1 with round := { s1.round with owedLowering := false } } else s1
  s2.runPoints.raiseCarry

/-- SHARE_COMPUTATION_COMPLETE (R49): not while the computation still waits for the reciprocal stage (R48). -/
def execShareComputationComplete (s : State) : Result :=
  .next (whenRunning (fun s =>
    if s.share.inFlight && decide (s.share.waiting ≠ some .share) then s.computationCompletes else s) s)

/-! ### The apply points -/

/-- LOWERING_POINT (R13, R51): at t0 + 650 ms; it waits for the computation. A MUTED station signals none. -/
def execLoweringPoint (s : State) : Result :=
  .next (whenRunning (fun s =>
    if s.round.loweringPending && !s.round.missed && decide (s.roundMoment 650 ≤ s.clock) then
      if s.round.participation = .member then
        (State.runPoints { s with round := { s.round with loweringDue := true } }).raiseCarry
      else { s with round := { s.round with loweringPending := false } }
    else s) s)

/-- RAISING_POINT (R13, R52): at t0 + 700 ms; it waits for the computation and the lowering. A MUTED station signals none. -/
def execRaisingPoint (s : State) : Result :=
  .next (whenRunning (fun s =>
    if s.round.raisingPending && !s.round.missed && decide (s.roundMoment 700 ≤ s.clock) then
      if s.round.participation = .member then
        (State.runPoints { s with round := { s.round with raisingDue := true } }).raiseCarry
      else { s with round := { s.round with raisingPending := false } }
    else s) s)

/-- MUTED_REPORT_POINT (R167): a MUTED station asks for a status frame at t0 + 700 ms of each round whose reference it took. -/
def execMutedReportPoint (s : State) : Result :=
  .next (whenRunning (fun s =>
    if decide (s.round.participation = .muted) && s.round.reportPending && decide (s.roundMoment 700 ≤ s.clock) then
      State.requestStatus { s with round := { s.round with reportPending := false } }
    else s) s)

/-! ### Round age -/

/-- The station becomes unreferenced (R16). -/
def State.losesReference (s : State) : State :=
  (State.clearStanding { s with round := { s.round with referenced := false } }).settleRepeat.requestStatus

/-- ROUND_AGE_LIMIT (R16): round age exceeds 3 × P. -/
def execRoundAgeLimit (s : State) : Result :=
  .next (whenRunning (fun s =>
    if s.round.referenced && decide (s.round.participation ≠ .listen)
        && decide (s.round.t0 + 3 * period s.round.tempo < s.clock) then s.losesReference
    else s) s)

end Sys2Proof.Machine
end

