-- ==== Sys2Proof/Machine/StatusCommands.lean ====
section
/-! DEFINITION. The commands of the status reporter: the end of a frame (R167) and the repeat timer (R167). -/

namespace Sys2Proof.Machine

/-- A frame's last byte has been sent (R164, R167): a sleep frame is sent by it, and a pending request starts the next frame. -/
def State.statusEnds (s : State) : State :=
  let s1 := { s with
    status := { s.status with frame := none }
    supply := { s.supply with sleepFrame := if s.supply.sleepFrame = .sending then .sent else s.supply.sleepFrame } }
  if s1.status.pending && s1.oscStable then s1.startStatus else s1

/-- STATUS_FRAME_END (R167). -/
def execStatusFrameEnd (s : State) : Result :=
  .next (whenRunning (fun s =>
    match s.status.frame with
    | none => s
    | some f => if f.sent s.clock then s.statusEnds else s) s)

/-- REPEAT_TIMER_EXPIRY (R167): the timer restarts and a frame is asked for. -/
def execRepeatTimerExpiry (s : State) : Result :=
  .next (whenRunning (fun s =>
    match s.status.repeatTimer with
    | none => s
    | some t =>
      if t ≤ s.clock && s.repeatRuns then
        State.requestStatus { s with status := { s.status with repeatTimer := some (s.clock + ms 1000) } }
      else s) s)

end Sys2Proof.Machine
end

