-- ==== Sys2Proof/Machine/TerminalCommands.lean ====
section
/-! DEFINITION. The commands of the terminal interface: demand lines (R136), ready line (R140, R142), boot timer and retry (R141), idle
timer (R143), keep-alive schedule (R147). -/

namespace Sys2Proof.Machine

/-! ### Demand -/

/-- DEMAND_LINES_CHANGE (R136): the new level becomes the demand candidate and its time starts. -/
def execDemandLinesChange (lines : DemandLines) (s : State) : Result :=
  .next (whenRunning (fun s =>
    if demandLevelOf lines = s.term.candidate then s
    else { s with term := { s.term with candidate := demandLevelOf lines, candidateSince := s.clock } }) s)

/-- A demand candidate has stood 20 ms and differs from the level in force (R136). -/
def State.demandStood (s : State) : Bool :=
  decide (s.term.candidate ≠ s.term.demand) && decide (s.term.candidateSince + ms 20 ≤ s.clock)

/-- The idle timer and the deferred hold at a newly taken level (R143): the timer starts at IDLE in ACTIVE in an outage and stops at any
other level, which clears the deferred hold. -/
def State.idleAtDemand (s : State) : State :=
  if s.term.demand = .idle then
    if s.term.mode = .active ∧ s.inOutage = true then { s with term := { s.term with idleTimer := some s.clock } } else s
  else { s with term := { s.term with idleTimer := none, deferredHold := false } }

/-- What a newly taken level requests by the terminal's state (R138, R141). -/
def State.demandWakes (s : State) : State :=
  match s.term.mode with
  | .hold => if s.term.demand = .idle then s else s.requestWake
  | .off =>
    match s.term.offReason with
    | .cutoff => if s.term.demand = .idle then s else s.requestWake
    | .retry => State.requestWake { s with term := { s.term with retryWait := none } }
    | .released => s
    | .start => s
  | .fault =>
    let s' := { s with term := { s.term with retryCount := 0 } }
    if s'.wakeAllowed then s'.makeWake
    else { s' with term := { s'.term with mode := .off, offReason := .released, wakePending := true } }
  | .booting => s
  | .active => s

/-- The test unit answers a newly taken SESSION or EMERGENCY (R156). -/
def State.testAtDemand (s : State) : State :=
  match s.term.demand with
  | .session => s.abortTest .aborted
  | .emergency => s.abortTest .aborted
  | .idle => s
  | .wanted => s

/-- The demand candidate becomes the demand level. Before the first band evaluation it is only taken (R134, R136); from then on it wakes a
sleeping part (R165), the test unit and the terminal interface answer it, and R144, R145 and R139 are applied. DESIGN CHOICE: of the two orders
that R148 allows, the abort of a test in flight is taken before the wake (log 25). -/
def State.demandTaken (s : State) : State :=
  if s.acting then
    let s1 := s.wakeUp
    let s2 := { s1 with term := { s1.term with demand := s1.term.candidate } }
    s2.testAtDemand.idleAtDemand.demandWakes.terminalReacts.raiseCarry
  else { s with term := { s.term with demand := s.term.candidate } }

/-- DEMAND_LEVEL_TAKEN (R136). -/
def execDemandLevelTaken (s : State) : Result :=
  .next (whenRunning (fun s => if s.demandStood then s.demandTaken else s) s)

/-! ### The ready line -/

/-- READY_SEEN (R135, R140): the ready line stands asserted; BOOTING within the boot limit is left for ACTIVE. A change of the line wakes
a sleeping part (R165). -/
def execReadySeen (s : State) : Result :=
  .next (whenRunning (fun s =>
    let s1 := if s.pins.ready then s else s.wakeUp
    let s2 := { s1 with pins := { s1.pins with ready := true } }
    s2.bootReady.raiseCarry) s)

/-- The loss of ready in ACTIVE (R142): a new boot, a test in flight aborted (R156). -/
def State.linkLost (s : State) : State :=
  (State.enterBooting { s with term := { s.term with retryCount := 0, wakeMark := false } }).abortTest .notCarried

/-- READY_LOST (R142): the ready line falls. A change of the line wakes a sleeping part (R165). -/
def execReadyLost (s : State) : Result :=
  .next (whenRunning (fun s =>
    let s1 := if s.pins.ready then s.wakeUp else s
    let s2 := { s1 with pins := { s1.pins with ready := false } }
    if s2.term.mode = .active then s2.linkLost else s2) s)

/-! ### Timers -/

/-- The boot has timed out (R141): TIMEOUT handed over, OFF for a retry or FAULT. -/
def State.bootTimesOut (s : State) : State :=
  let s1 := s.handTimeout
  let t := { s1.term with bootTimer := none, wakeMark := false }
  if s.term.retryCount = 0 then
    { s1 with term := { t with mode := .off, offReason := .retry, retryCount := 1, retryWait := some (s.clock + sec 10) } }
  else { s1 with term := { t with mode := .fault, retryCount := 0, wakePending := false } }

/-- BOOT_TIMEOUT (R141): the boot timer reaches the boot limit while BOOTING. -/
def execBootTimeout (s : State) : Result :=
  .next (whenRunning (fun s =>
    match s.term.bootTimer with
    | none => s
    | some began =>
      if s.term.mode = .booting ∧ sec s.bootLimit ≤ s.clock - began then s.bootTimesOut else s) s)

/-- RETRY_WAIT_EXPIRY (R141): a wake is requested for the retried boot. -/
def execRetryWaitExpiry (s : State) : Result :=
  .next (whenRunning (fun s =>
    match s.term.retryWait with
    | none => s
    | some t =>
      if s.term.mode = .off ∧ s.term.offReason = .retry ∧ t ≤ s.clock then
        (State.requestWake { s with term := { s.term with retryWait := none } }).raiseCarry
      else s) s)

/-- The idle timer has reached 120 s (R143): HOLD, or the deferred hold while a test is in flight. -/
def State.idleExpires (s : State) : State :=
  if s.testInFlight then { s with term := { s.term with idleTimer := none, deferredHold := true } }
  else s.enterHold.raiseCarry

/-- IDLE_TIMER_EXPIRY (R143). -/
def execIdleTimerExpiry (s : State) : Result :=
  .next (whenRunning (fun s =>
    match s.term.idleTimer with
    | none => s
    | some t => if s.term.mode = .active ∧ t + sec 120 ≤ s.clock then s.idleExpires else s) s)

/-- KEEP_ALIVE_TIME (R147): the schedule moves on by 1,200 s, and a terminal in HOLD has a wake requested. -/
def execKeepAliveTime (s : State) : Result :=
  .next (whenRunning (fun s =>
    match s.term.keepAlive with
    | none => s
    | some t =>
      if t ≤ s.clock then
        let s' := { s with term := { s.term with keepAlive := some (t + sec 1200) } }
        if s'.acting ∧ s'.term.mode = .hold then s'.requestWake.raiseCarry else s'
      else s) s)

end Sys2Proof.Machine
end

