-- ==== Sys2Proof/Machine/TestCommands.lean ====
section
/-! DEFINITION. The commands of the test unit: the ends of the phases (R153 to R155), the resistance (R133, R155), the due time (R150). -/

namespace Sys2Proof.Machine

/-- The 64th SETTLE event (R153): means, gate on, band hold set, LOAD. -/
def State.settleEnds (s : State) (c : TestContext) : State :=
  { s with
    batt := { s.batt with hold := true }
    test := { s.test with
      gate := true
      context := some { c with
        phase := .load
        events := 0
        vRest := (c.settleVolt / 64 : Nat)
        iRest := c.settleCurr / 64 } } }

/-- SETTLE_END (R153). -/
def execSettleEnd (s : State) : Result :=
  .next (whenRunning (fun s =>
    match s.test.context with
    | none => s
    | some c => if c.phase = .settle ∧ 64 ≤ c.events then s.settleEnds c else s) s)

/-- The 200th LOAD event (R154): means over the 180 counted samples, gate off, RELAX; the band hold stays set. -/
def State.loadEnds (s : State) (c : TestContext) : State :=
  { s with test := { s.test with
      gate := false
      context := some { c with
        phase := .relax
        events := 0
        vLoad := (c.loadVolt / 180 : Nat)
        iLoad := c.loadCurr / 180 } } }

/-- LOAD_END (R154). -/
def execLoadEnd (s : State) : Result :=
  .next (whenRunning (fun s =>
    match s.test.context with
    | none => s
    | some c => if c.phase = .load ∧ 200 ≤ c.events then s.loadEnds c else s) s)

/-- The next due time after a verdict: the start time + the interval (R150). -/
def State.dueAfter (s : State) (start : Time) : Option Time :=
  s.testInterval.map fun i => start + i

/-- ΔI of a finished test (R155). -/
def TestContext.deltaI (c : TestContext) : Int := c.iLoad - c.iRest

/-- ΔV of a finished test, 0 if the difference is negative (R155). -/
def TestContext.deltaV (c : TestContext) : Nat := (c.vRest - c.vLoad).toNat

/-- ΔI is accepted: 500 to 16,383 mA (R155). -/
def TestContext.loadGood (c : TestContext) : Bool :=
  decide (500 ≤ c.deltaI) && decide (c.deltaI ≤ 16383)

/-- What the test leaves behind at DONE: a result in hand and the request for the reciprocal stage, or a BAD-LOAD record (R155). -/
def State.resultOf (s : State) (c : TestContext) : State :=
  if c.loadGood then
    { s with
      test := { s.test with
        inHand := some { deltaV := c.deltaV, deltaI := c.deltaI.toNat, startBand := c.startBand, startTime := c.startTime } }
      share := s.share.askStage .test s.clock }
  else (s.addResult .pulse .badLoad none c.startBand).setDue (s.dueAfter c.startTime)

/-- The test reaches DONE (R155): it ends, the battery monitor and the terminal interface are told, and then its result is formed, the order in
which R155 names the two (log 40). -/
def State.testDone (s : State) (c : TestContext) : State :=
  (s.endTest.resultOf c).raiseCarry

/-- TEST_DONE (R155): the 500th RELAX event. -/
def execTestDone (s : State) : Result :=
  .next (whenRunning (fun s =>
    match s.test.context with
    | none => s
    | some c => if c.phase = .relax ∧ 500 ≤ c.events then s.testDone c else s) s)

/-- The resistance in mΩ from ΔV and ΔI, formed exactly (R155). -/
def resistanceOf (r : ResultInHand) : Nat :=
  r.deltaV * 1000 * recip r.deltaI / 2 ^ 24

/-- The record of a result in hand is written, the result cleared, the next due time written (R150, R155; log 19), and the reciprocal stage
given back (R48). -/
def State.resistanceKnown (s : State) (r : ResultInHand) : State :=
  let ohms := resistanceOf r
  let s1 := s.addResult .pulse (resistanceVerdict s.chemistry ohms) (some ohms) r.startBand
  let s2 := s1.setDue (s.dueAfter r.startTime)
  State.raiseCarry { s2 with test := { s2.test with inHand := none }, share := s2.share.releaseStage }

/-- RESISTANCE_COMPUTED (R155): the reciprocal stage hands q back to the test unit. -/
def execResistanceComputed (s : State) : Result :=
  .next (whenRunning (fun s =>
    match s.test.inHand with
    | none => s
    | some r => if s.share.stage = some .test then s.resistanceKnown r else s) s)

/-- TEST_DUE (R150): the clock reaches the next due time. -/
def execTestDue (s : State) : Result :=
  .next (whenRunning (fun s =>
    match s.test.schedule with
    | none => s
    | some t =>
      if t ≤ s.clock then State.raiseCarry { s with test := { s.test with due := true } } else s) s)

end Sys2Proof.Machine
end

