-- ==== Sys2Proof/Machine/Dispatch.lean ====
section
/-! DEFINITION. exec: one arm for each command, each one call of its meaning. -/

namespace Sys2Proof.Machine

/-- The effect of a command on everything but the queue. -/
def exec (i : Instr) (s : State) : Host.Outcome State Fault Refusal :=
  match i with
  | .supplyDipReset => Sys2Proof.Machine.execSupplyDipReset s
  | .retainedStoreLoss => Sys2Proof.Machine.execRetainedStoreLoss s
  | .start pins => Sys2Proof.Machine.execStart pins s
  | .fastOscillatorStable => Sys2Proof.Machine.execFastOscillatorStable s
  | .mainsSenseChange level => Sys2Proof.Machine.execMainsSenseChange level s
  | .mainsFail => Sys2Proof.Machine.execMainsFail s
  | .mainsReturn => Sys2Proof.Machine.execMainsReturn s
  | .openingFrame o => Sys2Proof.Machine.execOpeningFrame o s
  | .notice n => Sys2Proof.Machine.execNotice n s
  | .roundTimerExpiry => Sys2Proof.Machine.execRoundTimerExpiry s
  | .joinTimerExpiry => Sys2Proof.Machine.execJoinTimerExpiry s
  | .roundTimerLead => Sys2Proof.Machine.execRoundTimerLead s
  | .lineEdgeWake => Sys2Proof.Machine.execLineEdgeWake s
  | .closeEvent => Sys2Proof.Machine.execCloseEvent s
  | .shareComputationComplete => Sys2Proof.Machine.execShareComputationComplete s
  | .loweringPoint => Sys2Proof.Machine.execLoweringPoint s
  | .raisingPoint => Sys2Proof.Machine.execRaisingPoint s
  | .mutedReportPoint => Sys2Proof.Machine.execMutedReportPoint s
  | .roundAgeLimit => Sys2Proof.Machine.execRoundAgeLimit s
  | .lineIdle => Sys2Proof.Machine.execLineIdle s
  | .loseArbitration => Sys2Proof.Machine.execLoseArbitration s
  | .frameError => Sys2Proof.Machine.execFrameError s
  | .errorDelimiterEnd => Sys2Proof.Machine.execErrorDelimiterEnd s
  | .extraWaitExpiry => Sys2Proof.Machine.execExtraWaitExpiry s
  | .dominantTimeout => Sys2Proof.Machine.execDominantTimeout s
  | .lineStuck => Sys2Proof.Machine.execLineStuck s
  | .lineStuckClear => Sys2Proof.Machine.execLineStuckClear s
  | .returnFromOffline => Sys2Proof.Machine.execReturnFromOffline s
  | .measurementEvent m => Sys2Proof.Machine.execMeasurementEvent m s
  | .bandEvaluation => Sys2Proof.Machine.execBandEvaluation s
  | .settleEnd => Sys2Proof.Machine.execSettleEnd s
  | .loadEnd => Sys2Proof.Machine.execLoadEnd s
  | .testDone => Sys2Proof.Machine.execTestDone s
  | .resistanceComputed => Sys2Proof.Machine.execResistanceComputed s
  | .testDue => Sys2Proof.Machine.execTestDue s
  | .peakLimit => Sys2Proof.Machine.execPeakLimit s
  | .persistLatch => Sys2Proof.Machine.execPersistLatch s
  | .intervalTimerExpiry => Sys2Proof.Machine.execIntervalTimerExpiry s
  | .riserLowGateShut => Sys2Proof.Machine.execRiserLowGateShut s
  | .riserLowGateOpen => Sys2Proof.Machine.execRiserLowGateOpen s
  | .riserHighLatch => Sys2Proof.Machine.execRiserHighLatch s
  | .railLimit => Sys2Proof.Machine.execRailLimit s
  | .railHigh => Sys2Proof.Machine.execRailHigh s
  | .demandLinesChange level => Sys2Proof.Machine.execDemandLinesChange level s
  | .demandLevelTaken => Sys2Proof.Machine.execDemandLevelTaken s
  | .readySeen => Sys2Proof.Machine.execReadySeen s
  | .readyLost => Sys2Proof.Machine.execReadyLost s
  | .bootTimeout => Sys2Proof.Machine.execBootTimeout s
  | .retryWaitExpiry => Sys2Proof.Machine.execRetryWaitExpiry s
  | .idleTimerExpiry => Sys2Proof.Machine.execIdleTimerExpiry s
  | .keepAliveTime => Sys2Proof.Machine.execKeepAliveTime s
  | .statusFrameEnd => Sys2Proof.Machine.execStatusFrameEnd s
  | .repeatTimerExpiry => Sys2Proof.Machine.execRepeatTimerExpiry s
  | .enterSleep => Sys2Proof.Machine.execEnterSleep s
  | .startBitEdge => Sys2Proof.Machine.execStartBitEdge s
  | .switchingPeriodStart => Sys2Proof.Machine.execSwitchingPeriodStart s
  | .onTimeEnd => Sys2Proof.Machine.execOnTimeEnd s

end Sys2Proof.Machine
end

