-- ==== Sys2Proof/Machine/Tick.lean ====
section
/-! DEFINITION. What one cycle of the fast oscillator does, whatever is commanded: the clock, the bit position with its
synchronisation and samples (R73 to R76), the driver at the start of each bit (R73, R86, R97), the runs and counts that samples advance
(R83, R98, R99, R104, R106), the dominant drive time (R105). It is what step does on an empty queue (log 1). -/

namespace Sys2Proof.Machine

/-! ### Bit position -/

/-- The last quantum of the bit (R74). -/
def BitPos.last (b : BitPos) : Nat := 1 + b.segA + b.segB

/-- Resynchronisation on an edge seen in the quantum in progress (R76): segment A lengthened by at most 2 for a late edge, segment B
shortened by at most 2 for an early one, none in quantum 1. R76 numbers the quanta of a nominal bit. DESIGN CHOICE: in a bit whose segment A
was lengthened, an edge in segment B is early by its distance from that bit's own end (log 38). -/
def BitPos.resync (b : BitPos) : BitPos :=
  if b.quantum ≤ 1 then b
  else if b.quantum ≤ 1 + b.segA then { b with segA := b.segA + min 2 (b.quantum - 1), resynced := true }
  else { b with segB := b.segB - min 2 (b.last + 1 - b.quantum), resynced := true }

/-- The quantum in progress is the one at whose end the line is sampled (R74). -/
def BitPos.samples (b : BitPos) : Bool := decide (b.quantum = 1 + b.segA)

/-- The bit ends with the quantum in progress, or has ended before it by a shortened segment B (R74, R76). -/
def BitPos.ends (b : BitPos) : Bool := decide (b.last ≤ b.quantum)

/-- The bit position after the quantum in progress. A quantum beyond the end of a shortened bit is quantum 1 of the next (R76). -/
def BitPos.next (b : BitPos) : BitPos :=
  if b.quantum < b.last then { b with cycle := 0, quantum := b.quantum + 1 }
  else { quantum := b.quantum - b.last + 1, resynced := b.resynced }

/-! ### Levels -/

/-- The line's level: dominant if the station or a peer drives dominant (R73). -/
def wiredAnd (own peers : Level) : Level :=
  if own = .dominant then .dominant else peers

/-- The level on the line in the quantum in progress. -/
def State.lineLevel (s : State) : Level :=
  wiredAnd s.line.driver (s.pins.linePeers.head?.getD .recessive)

/-- The level the station has to drive in the bit that begins, before R73's conditions: the transmitter's next bit while its attempt goes on,
a receiver's acknowledgement (R86), an active flag's six bits (R97). -/
def LineState.wanted (l : LineState) : Level :=
  match l.phase with
  | .frame =>
    match l.role with
    | .transmitter =>
      if l.sendVerdict = .going then
        match l.sending[l.rxBits.length]? with
        | none => .recessive
        | some b => b.level
      else .recessive
    | .receiver => if l.receiver.mayAck then .dominant else .recessive
    | .none => .recessive
  | .error =>
    match l.error with
    | none => .recessive
    | some e =>
      match e.flag, e.progress with
      | .active, .flag run _ => if run < 6 then .dominant else .recessive
      | _, _ => .recessive
  | .integrating => .recessive
  | .idle => .recessive
  | .gap => .recessive

/-- A hardware fault holds the driver dominant in the quantum in progress (R105). DESIGN CHOICE: the fault is an input as the peers' levels are,
and it lies before the output stage, which R73's conditions keep recessive (log 46). -/
def State.driverHeld (s : State) : Bool :=
  s.pins.driverFault.head?.getD false && s.mayDrive

/-- The driver as a standing fault holds it (R105). -/
def State.holdDriver (s : State) : State :=
  if s.driverHeld then { s with line := { s.line with driver := .dominant } } else s

/-- The driver's level in the bit that begins (R73, R105). -/
def State.nextDrive (s : State) : Level :=
  if s.driverHeld then .dominant else if s.mayDrive then s.line.wanted else .recessive

/-! ### Samples -/

/-- An error flag and its delimiter advance by a sampled bit (R98, R99). -/
def FlagProgress.sampled (p : FlagProgress) (kind : FlagKind) (b : Level) : FlagProgress :=
  match p with
  | .flag run last =>
    let run' := if kind = .active ∨ run = 0 ∨ b = last then run + 1 else 1
    if 6 ≤ run' then .waiting else .flag run' b
  | .waiting => if b = .recessive then .delimiter 1 else .waiting
  | .delimiter n => if 8 ≤ n then .delimiter n else if b = .recessive then .delimiter (n + 1) else .waiting

/-- What a sampled bit adds by the line phase (R83, R87, R98, R99). A frame that is decided takes no more bits (log 8). -/
def LineState.phaseSample (l : LineState) (b : Level) : LineState :=
  match l.phase with
  | .integrating => { l with recessiveRun := if b = .recessive then min 9 (l.recessiveRun + 1) else 0 }
  | .idle => l
  | .frame => if l.finished.isSome || l.errorSeen.isSome then l else { l with rxBits := l.rxBits ++ [b] }
  | .error => { l with error := l.error.map fun e => { e with progress := e.progress.sampled e.flag b } }
  | .gap => { l with gapBits := min 3 (l.gapBits + 1) }

/-- The dominant line run and the clearing run (R106). -/
def LineState.stuckSample (l : LineState) (b : Level) : LineState :=
  match b with
  | .dominant => { l with dominantRun := min 400 (l.dominantRun + 1), clearingRun := 0 }
  | .recessive => { l with dominantRun := 0, clearingRun := if l.stuck then min 12 (l.clearingRun + 1) else l.clearingRun }

/-- The recovery of an OFFLINE station, held while the line-stuck flag is set (R104). -/
def LineState.recoverySample (l : LineState) (b : Level) : LineState :=
  if l.confinement = .offline ∧ l.stuck = false then
    match b with
    | .dominant => { l with recoveryBits := 0 }
    | .recessive =>
      if 12 ≤ l.recoveryBits + 1 then { l with recoveryBits := 0, recoveryRuns := min 64 (l.recoveryRuns + 1) }
      else { l with recoveryBits := l.recoveryBits + 1 }
  else l

/-- All that a sampled bit does (R74). -/
def LineState.sample (l : LineState) (b : Level) : LineState :=
  ((l.phaseSample b).stuckSample b).recoverySample b

/-! ### Quanta and cycles -/

/-- A recessive-to-dominant edge seen in the quantum in progress. -/
def State.edgeSeen (s : State) : Bool :=
  decide (s.line.seen = .recessive) && decide (s.lineLevel = .dominant)

/-- The station resynchronises on the edge (R76): in a frame, error flag or delimiter, in a bit it does not drive dominant, once between two
samples. DESIGN CHOICE: for an early edge the bit so tested is the one in progress, not the next one that the edge belongs to (log 53). -/
def State.resyncs (s : State) (b : BitPos) : Bool :=
  s.edgeSeen && s.line.frameInProgress && decide (s.line.driver = .recessive) && !b.resynced

/-- An edge while INTEGRATING restarts the recessive run (R75). -/
def LineState.edgeIntegrating (l : LineState) (edge : Bool) : LineState :=
  if edge && decide (l.phase = .integrating) then { l with recessiveRun := 0 } else l

/-- The end of a quantum: the peers' next level, the edge, the sample, and at the end of the bit the next one with its drive (R74). DESIGN
CHOICE: when an early edge makes the quantum in progress the synchronisation quantum of the next bit, the driver takes that bit's level at the
end of this quantum, the start of quantum 2, because the start of quantum 1 is past (log 37). A fault that
ends within a bit leaves the driver as it is to that bit's end, since the driver changes at the start of a bit (log 46). -/
def State.quantumEnds (s : State) (b : BitPos) : State :=
  let level := s.lineLevel
  let b1 := if s.resyncs b then b.resync else b
  let l1 := { s.line.edgeIntegrating s.edgeSeen with seen := level }
  let l2 := if b1.samples then l1.sample level else l1
  let b2 := if b1.samples then { b1 with resynced := false } else b1
  let s1 := { s with
    pins := { s.pins with linePeers := s.pins.linePeers.tail, driverFault := s.pins.driverFault.tail }
    line := { l2 with bitPos := some b2.next } }
  if b2.ends then { s1 with line := { s1.line with driver := s1.nextDrive } } else s1

/-- The driver's dominant time, in cycles up to 25 bit times, 0 after a cycle in which the driver is recessive (R105). DESIGN CHOICE: a recessive
level that a command gives while a fault stands lasts for no cycle, so the time goes on through it (log 46). -/
def LineState.countDrive (l : LineState) : LineState :=
  { l with driveTime := if l.driver = .dominant then min 4000 (l.driveTime + 1) else 0 }

/-- One cycle of a line controller whose oscillator is STABLE: a fault that stands holds the driver before its dominant time is counted
(R105). -/
def State.lineCycle (s : State) (b : BitPos) : State :=
  let held := s.holdDriver
  let s1 := { held with line := held.line.countDrive }
  if 9 ≤ b.cycle then s1.quantumEnds b
  else { s1 with line := { s1.line with bitPos := some { b with cycle := b.cycle + 1 } } }

/-- One cycle of 312.5 ns: the clock, the riser comparator's level as its pin brings it (log 7), and the line controller's bit timing. -/
def State.tick (s : State) : State :=
  let s1 := { s with
    clock := s.clock + 1
    pins := { s.pins with riserHigh := s.pins.riserAhead.head?.getD s.pins.riserHigh, riserAhead := s.pins.riserAhead.tail } }
  if s.oscStable then
    match s.line.bitPos with
    | none => s1
    | some b => s1.lineCycle b
  else s1

end Sys2Proof.Machine
end

