-- ==== Sys2Proof/Machine/Step.lean ====
section
/-! DEFINITION. The step: the command at the front of the queue, or one cycle of the fast oscillator when none waits. -/

namespace Sys2Proof.Machine

/-- The state without the front of its queue. -/
def State.withPending (s : State) (rest : List Instr) : State :=
  { s with pending := rest }

/-- One step of the block: the front command is executed with the queue's rest, or, on an empty queue, a cycle of 312.5 ns passes
(log 1). -/
def step (s : State) : Host.Outcome State Fault Refusal :=
  match s.pending with
  | [] => .next s.tick
  | c :: rest => exec c (s.withPending rest)

/-- The state with the command that a word spells at the front of its queue; unchanged where the word spells none (log 31). -/
def State.withFetchWord (s : State) (nbits w : Nat) : State :=
  match decodeTableWord nbits w with
  | none => s
  | some c => s.withPending (c :: s.pending)

end Sys2Proof.Machine
end

