-- ==== Sys2Proof/Safety.lean ====
section
/-! DEFINITION. What counts as a safe state of the block: the properties the spec states of it at every moment, each as an invariant that a
step is to keep. -/

namespace Sys2Proof.Machine

/-- The station drives no dominant level while OFFLINE, in LISTEN or with the line-stuck flag set (R73), nor while the fast oscillator is not
STABLE (R72), and its dominant drive time is then 0 (R105). -/
def DriverSafe (s : State) : Prop :=
  (s.mayDrive = false ∨ s.supply.oscillator ≠ .stable) → s.line.driver = .recessive ∧ s.line.driveTime = 0

/-- The confinement state is the one the counts read as, unless it is OFFLINE (R101). -/
def ConfinementAgrees (s : State) : Prop :=
  s.line.confinement ≠ .offline → s.line.confinement = confinementOf s.line.txErrors s.line.rxErrors

/-- In every converter state but RUN both gates are off and both setpoints 0 (R114). -/
def ConverterSafe (s : State) : Prop :=
  s.conv.mode ≠ .run →
    s.conv.gateHigh = false ∧ s.conv.gateLow = false ∧ s.conv.feedSetpoint = 0 ∧ s.conv.chargeSetpoint = 0

/-- In RUN neither setpoint stands above its target (R115). -/
def SetpointsWithinTargets (s : State) : Prop :=
  s.conv.mode = .run → s.conv.feedSetpoint ≤ s.feedTarget ∧ s.conv.chargeSetpoint ≤ s.chargeTarget

/-- Both gate drives are never on together. -/
def GatesExclusive (s : State) : Prop :=
  ¬ (s.conv.gateHigh = true ∧ s.conv.gateLow = true)

/-- The phase of a test in flight, none without one. -/
def State.testPhase (s : State) : Option TestPhase :=
  s.test.context.map TestContext.phase

/-- The pulse-load gate is on only in LOAD (R149), the band hold is set from the start of LOAD to the end of RELAX (R129), and a test in
flight finds the band FULL or GOOD, so that none is in flight at CUTOFF (R130, R156). -/
def TestSafe (s : State) : Prop :=
  (s.test.gate = true ↔ s.testPhase = some .load)
    ∧ (s.batt.hold = true ↔ s.testPhase = some .load ∨ s.testPhase = some .relax)
    ∧ (s.testInFlight = true → s.batt.band.testable = true)

/-- The discharge switch is OPEN exactly while the band is CUTOFF (R130). -/
def DischargeSafe (s : State) : Prop :=
  s.batt.discharge = .opened ↔ s.batt.band = .cutoff

/-- The charge switch stands as R131 gives, an OPEN switch does not conduct, and a CLOSED one holds to the limit of R132's table. -/
def ChargeSafe (s : State) : Prop :=
  (s.batt.charge = .closed ↔ s.chargeCloses = true) ∧ (s.batt.charge = .opened → s.batt.conduction = 0)
    ∧ (s.batt.charge = .closed → s.batt.chargeLimit = s.chargeLimitNow)

/-- The result list holds at most four records (R158). -/
def ResultsBounded (s : State) : Prop :=
  s.test.results.length ≤ 4

/-- A station that is not a referenced MEMBER holds no grant (R53) and has no lowering or raising that could be applied, and an
unreferenced one has no point pending (R13, R16, R19); LISTEN has no reference, because the first one it takes makes it MEMBER (R18). -/
def GrantsCleared (s : State) : Prop :=
  ((s.round.participation ≠ .member ∨ s.round.referenced = false) →
      s.share.feedGrant = 0 ∧ s.share.chargeGrant = 0 ∧ s.round.loweringDue = false ∧ s.round.raisingDue = false
        ∧ s.round.owedLowering = false)
    ∧ (s.round.referenced = false → s.round.loweringPending = false ∧ s.round.raisingPending = false)
    ∧ (s.round.participation = .listen → s.round.referenced = false)

/-- A test in flight finds every condition whose loss aborts it (R156): MEMBER, referenced, not OFFLINE, an outage, the converter RUN. -/
def TestConditions (s : State) : Prop :=
  s.testInFlight = true →
    s.round.participation = .member ∧ s.round.referenced = true ∧ s.line.confinement ≠ .offline ∧ s.supply.mains = .absent
      ∧ s.conv.mode = .run

/-- The shape of the transmit queue (R88): an opening frame at most and at the head, then at most two notices. -/
def QueueShape (q : List Frame) : Prop :=
  (q.filter fun f => !Frame.isNotice f).length ≤ 1 ∧ (q.filter Frame.isNotice).length ≤ 2
    ∧ q = (q.filter fun f => !Frame.isNotice f) ++ q.filter Frame.isNotice

/-- The transmit queue has its shape, holds notices only while a close event is pending to remove them (R12, R69), and is empty while the
station is not MEMBER (R17, R20). -/
def QueueSafe (s : State) : Prop :=
  QueueShape s.line.queue
    ∧ (s.round.closePending = false → s.line.queue.filter Frame.isNotice = [])
    ∧ (s.round.participation ≠ .member → s.line.queue = [])

/-- The addresses of a list of records rise strictly. -/
def recordsSorted (l : List (Addr × PeerRecord)) : Prop :=
  (l.map fun e => e.1.val).Pairwise (· < ·)

/-- The peer table is in its canonical form (R25, R36): one record for an address, in ascending order, the present mask that of the
records. -/
def PeersSafe (s : State) : Prop :=
  recordsSorted s.peers.records ∧ s.peers.present = presentMask s.peers.records

/-- The terminal's timers and its pending wake stand only where their rules let them: the boot timer exactly in BOOTING (R140), the retry
wait only in OFF (RETRY) (R141), the idle timer only in ACTIVE in an outage with demand IDLE (R143), a pending wake only in HOLD or OFF
(R139); and before the first band evaluation the terminal is as the start left it (R134). -/
def TerminalSafe (s : State) : Prop :=
  (s.term.bootTimer.isSome = true ↔ s.term.mode = .booting)
    ∧ (s.term.retryWait.isSome = true → s.term.mode = .off ∧ s.term.offReason = .retry)
    ∧ (s.term.idleTimer.isSome = true → s.term.mode = .active ∧ s.supply.mains = .absent ∧ s.term.demand = .idle)
    ∧ (s.term.wakePending = true → s.term.mode = .hold ∨ s.term.mode = .off)
    ∧ (s.batt.band = .unrated →
        ((s.term.mode = .off ∧ s.term.offReason = .start) ∨ s.term.mode = .fault) ∧ s.term.wakePending = false)

/-- Line counts lie in the ranges of R72 and R91. -/
def LineRanges (l : LineState) : Prop :=
  l.txErrors ≤ 255 ∧ l.rxErrors ≤ 255 ∧ l.unheard ≤ 255 ∧ l.unsent ≤ 255 ∧ l.failed ≤ 2 ∧ l.recessiveRun ≤ 9
    ∧ l.recoveryRuns ≤ 64 ∧ l.recoveryBits ≤ 12 ∧ l.driveTime ≤ bitTimes 25 ∧ l.dominantRun ≤ 400 ∧ l.clearingRun ≤ 12

/-- Converter counts lie in the ranges of R108 and R116. -/
def ConverterRanges (c : ConverterState) : Prop :=
  c.peakRun ≤ 32 ∧ c.latchCount ≤ 3 ∧ c.command ≤ 64 ∧ c.window.length ≤ 16

/-- Battery counts lie in the ranges of R125 and R132. -/
def BatteryRanges (b : BatteryState) : Prop :=
  b.window.length ≤ 256 ∧ b.evalCount ≤ 256 ∧ b.conduction ≤ 16 ∧ b.chargeLimit ≤ 2000

/-- A slot's holdover is 2 at most (R25). -/
def SlotRange (slot : Option Slot) : Prop :=
  ∀ x ∈ slot, x.holdover ≤ 2

/-- The holdovers of every record lie in R25's range. -/
def PeerRanges (p : PeerState) : Prop :=
  ∀ e ∈ p.records, SlotRange e.2.feed ∧ SlotRange e.2.charge

/-- The events counted in a phase of a test are at most those the phase takes, 500 in the longest (R149, R153, R154). -/
def EventsInPhase (context : Option TestContext) : Prop :=
  ∀ c ∈ context, c.events ≤ match c.phase with
    | .settle => 64
    | .load => 200
    | .relax => 500

/-- Every count lies in the range its block's state table gives it (R25, R55, R72, R91, R108, R125, R134, R149). -/
def CountsInRange (s : State) : Prop :=
  LineRanges s.line ∧ ConverterRanges s.conv ∧ BatteryRanges s.batt ∧ s.demand.window.length ≤ 64
    ∧ s.term.retryCount ≤ 1 ∧ s.test.carryCount ≤ 30 ∧ PeerRanges s.peers ∧ EventsInPhase s.test.context

end Sys2Proof.Machine
end

