-- ==== Sys2Proof/WellFormed.lean ====
section
/-! DEFINITION. Which commands are well formed. The operands' types already hold addresses, classes and frame fields to their
ranges; what is left to check is that samples lie in the ranges of R111 and that a start's riser voltage does. A command that is
not well formed is still executed: the samples saturate (R111). -/

namespace Sys2Proof

/-- The four samples lie in the ranges of R111's table. -/
def Samples.wf (m : Samples) : Bool :=
  decide (m.riserVoltage ≤ 6553) && decide (m.riserCurrent ≤ 4095) && decide (m.battVoltage ≤ 32767)
    && decide (-16384 ≤ m.battCurrent) && decide (m.battCurrent ≤ 16383)

/-- The riser voltage a start reads lies in the range of R111's riser voltage. -/
def StartPins.wf (p : StartPins) : Bool :=
  decide (p.riser ≤ 6553)

/-- A command is well formed. -/
def Instr.wf : Instr → Bool
  | .start p => p.wf
  | .measurementEvent m => m.wf
  | .supplyDipReset => true
  | .retainedStoreLoss => true
  | .fastOscillatorStable => true
  | .mainsSenseChange _ => true
  | .mainsFail => true
  | .mainsReturn => true
  | .openingFrame _ => true
  | .notice _ => true
  | .roundTimerExpiry => true
  | .joinTimerExpiry => true
  | .roundTimerLead => true
  | .lineEdgeWake => true
  | .closeEvent => true
  | .shareComputationComplete => true
  | .loweringPoint => true
  | .raisingPoint => true
  | .mutedReportPoint => true
  | .roundAgeLimit => true
  | .lineIdle => true
  | .loseArbitration => true
  | .frameError => true
  | .errorDelimiterEnd => true
  | .extraWaitExpiry => true
  | .dominantTimeout => true
  | .lineStuck => true
  | .lineStuckClear => true
  | .returnFromOffline => true
  | .bandEvaluation => true
  | .settleEnd => true
  | .loadEnd => true
  | .testDone => true
  | .resistanceComputed => true
  | .testDue => true
  | .peakLimit => true
  | .persistLatch => true
  | .intervalTimerExpiry => true
  | .riserLowGateShut => true
  | .riserLowGateOpen => true
  | .riserHighLatch => true
  | .railLimit => true
  | .railHigh => true
  | .demandLinesChange _ => true
  | .demandLevelTaken => true
  | .readySeen => true
  | .readyLost => true
  | .bootTimeout => true
  | .retryWaitExpiry => true
  | .idleTimerExpiry => true
  | .keepAliveTime => true
  | .statusFrameEnd => true
  | .repeatTimerExpiry => true
  | .enterSleep => true
  | .startBitEdge => true
  | .switchingPeriodStart => true
  | .onTimeEnd => true

end Sys2Proof
end

