-- ==== Sys2Proof/Certificates/Slice0/Obligations.lean ====
section
/-! DEFINITION. The statements for the provers, one Prop each. Every command of a running part ends with what the supply controller does with a
standing sleep request (R164): the next state is then written t.askSleep, where t is the command's own effect. Without a sleep request that is
t itself; what it is with one is stated by Obligations.SleepAndWake. -/

open Sys2Proof Sys2Proof.Machine

/-! ### The step and the queue -/

/-- With a command at the front of the queue, a step is exec of that command on the state with the queue's rest; on an empty queue it is one
cycle, which advances the clock by 1, brings the riser comparator's next level where its pin has one, and leaves every block but the line
controller, and every other pin level but the peers' and a driver fault's on the line, as it was (model's choice, logs 1, 7 and 46). -/
def Obligations.StepRunsFrontCommand : Prop :=
  (∀ (c : Instr) (rest : List Instr) (s : State), s.pending = c :: rest → step s = exec c { s with pending := rest })
    ∧ ∀ s : State, s.pending = [] →
        ∃ t, step s = .next t ∧ t.clock = s.clock + 1
          ∧ t = { s with
              clock := t.clock
              line := t.line
              pins := { s.pins with
                linePeers := t.pins.linePeers
                driverFault := t.pins.driverFault
                riserHigh := s.pins.riserAhead.head?.getD s.pins.riserHigh
                riserAhead := s.pins.riserAhead.tail } }

/-- Every command answers a next state, and leaves the clock and the queue as they are (log 2, log 30). -/
def Obligations.EveryCommandAnswersNext : Prop :=
  ∀ (c : Instr) (s : State), ∃ t, exec c s = .next t ∧ t.clock = s.clock ∧ t.pending = s.pending

/-- The block right after reset: the part in reset with its outputs at rest (R160) and every block at the start values of its state table (R1,
R39, R55, R72, R91, R108, R125, R134, R149, R166), its counts, runs, windows, timers, queue and lists empty, nothing pending or waiting. Every
invariant of Safety.lean holds of it. The spec gives the blocks their start values at a START; that they stand at them in reset, before any
start, is the model's choice (logs 4 and 5). -/
def Obligations.ResetHoldsStartValues : Prop :=
  let s := State.reset
  s.supply.power = .reset ∧ s.supply.cause = .cold ∧ s.supply.oscillator = .stopped ∧ s.supply.asleep = false
    ∧ s.supply.sleepRequest = false ∧ s.supply.onset = none
    ∧ s.line.driver = .recessive ∧ s.conv.gateHigh = false ∧ s.conv.gateLow = false ∧ s.test.gate = false
    ∧ s.batt.discharge = .closed ∧ s.batt.charge = .opened ∧ s.statusLevel = true
    ∧ s.powerEnable = false ∧ s.holdLine = false ∧ s.supply.wokeAt = none
    ∧ s.round.participation = .listen ∧ s.round.referenced = false ∧ s.round.adopted = false ∧ s.round.missed = false
    ∧ s.round.number = 0 ∧ s.round.timer = none ∧ s.round.lastValid = none ∧ s.round.viewOutage = false
    ∧ s.round.closePending = false ∧ s.round.loweringPending = false ∧ s.round.raisingPending = false ∧ s.round.loweringDue = false
    ∧ s.round.raisingDue = false ∧ s.round.owedLowering = false ∧ s.round.reportPending = false ∧ s.round.joinTimer = none
    ∧ s.peers.records = [] ∧ s.peers.present = 0 ∧ s.peers.heard = 0 ∧ s.peers.held = 0 ∧ s.peers.view = []
    ∧ s.share.budgetUsed = 0 ∧ s.share.computedFeed = 0 ∧ s.share.computedCharge = 0 ∧ s.share.feedGrant = 0
    ∧ s.share.chargeGrant = 0 ∧ s.share.inFlight = false ∧ s.share.stage = none ∧ s.share.waiting = none
    ∧ s.demand.window = [] ∧ s.demand.lastCharge = none ∧ s.demand.claims = none ∧ s.demand.claimsOpen = false
    ∧ s.demand.carryFormed = false
    ∧ s.line.phase = .integrating ∧ s.line.role = .none ∧ s.line.queue = [] ∧ s.line.txErrors = 0 ∧ s.line.rxErrors = 0
    ∧ s.line.confinement = .active ∧ s.line.failed = 0 ∧ s.line.stuck = false ∧ s.line.unheard = 0 ∧ s.line.unsent = 0
    ∧ s.line.bitPos = none ∧ s.line.recessiveRun = 0 ∧ s.line.gapBits = 0 ∧ s.line.rxBits = [] ∧ s.line.extraWait = .none
    ∧ s.line.error = none ∧ s.line.recoveryRuns = 0 ∧ s.line.recoveryBits = 0 ∧ s.line.driveTime = 0 ∧ s.line.dominantRun = 0
    ∧ s.line.clearingRun = 0
    ∧ s.conv.mode = .idle ∧ s.conv.feedSetpoint = 0 ∧ s.conv.chargeSetpoint = 0 ∧ s.conv.timeBase = none ∧ s.conv.window = []
    ∧ s.conv.peakRun = 0 ∧ s.conv.latchMark = false ∧ s.conv.latchCount = 0 ∧ s.conv.command = 0 ∧ s.conv.onTime = .none
    ∧ s.batt.band = .unrated ∧ s.batt.window = [] ∧ s.batt.evalCount = 0 ∧ s.batt.hold = false ∧ s.batt.chargeLimit = 0
    ∧ s.batt.conduction = 0
    ∧ s.term.mode = .off ∧ s.term.offReason = .start ∧ s.term.demand = .idle ∧ s.term.wakePending = false ∧ s.term.bootTimer = none
    ∧ s.term.wakeMark = false ∧ s.term.retryCount = 0 ∧ s.term.retryWait = none ∧ s.term.idleTimer = none ∧ s.term.keepAlive = none
    ∧ s.term.deferredHold = false
    ∧ s.test.schedule = none ∧ s.test.due = false ∧ s.test.carry = false ∧ s.test.carryCount = 0 ∧ s.test.context = none
    ∧ s.test.inHand = none ∧ s.test.wakeCheck = none ∧ s.test.results = []
    ∧ s.status.frame = none ∧ s.status.pending = false ∧ s.status.repeatTimer = none ∧ s.pending = []
    ∧ DriverSafe s ∧ ConfinementAgrees s ∧ ConverterSafe s ∧ GatesExclusive s
    ∧ SetpointsWithinTargets s ∧ TestSafe s ∧ TestConditions s ∧ DischargeSafe s
    ∧ ChargeSafe s ∧ GrantsCleared s ∧ QueueSafe s ∧ PeersSafe s
    ∧ TerminalSafe s ∧ CountsInRange s ∧ ResultsBounded s

/-! ### Frames on the line -/

/-- Receiving the bits of a frame as its transmitter sends them, with either level in the acknowledge slot, gives that frame back, for every
opening frame and every notice. What the driver takes as a bit begins: dominant exactly for a dominant next bit of the frame that the station
transmits, for the acknowledge slot of a frame that it receives and has found correct up to and including the check delimiter, and for the six
bits of an active error flag, or where a fault holds it; and never while OFFLINE, in LISTEN or with the line-stuck flag set. That a step on an
empty queue is a cycle (log 1), that a fault is held off by those conditions too (log 46), and that after an early edge in the bit's last
quantum the driver takes the next bit's level at the end of that quantum (log 37), are the model's. -/
def Obligations.ReceivedFrameIsSentFrame : Prop :=
  (∀ (f : Frame) (ack : Level), (receive (lineBits f ack)).frame = some f ∧ (receive (lineBits f ack)).ack = ack)
    ∧ (∀ s : State, s.mayDrive = true ↔ s.line.confinement ≠ .offline ∧ s.round.participation ≠ .listen ∧ s.line.stuck = false)
    ∧ ∀ (s : State) (b : BitPos), s.pending = [] → s.supply.oscillator = .stable → s.line.bitPos = some b → b.cycle = 9 →
      b.quantum = 1 + b.segA + b.segB → 1 ≤ b.segB →
      let sends : Prop := s.line.phase = .frame ∧ s.line.role = .transmitter ∧ ∃ f q w, s.line.queue = f :: q
        ∧ compareSent (sentBits f) s.line.rxBits = .going ∧ (sentBits f)[s.line.rxBits.length]? = some w ∧ w.level = .dominant
      let acknowledges : Prop := s.line.phase = .frame ∧ s.line.role = .receiver ∧ (receive s.line.rxBits).fault = none
        ∧ (receive s.line.rxBits).inRegion = false ∧ (receive s.line.rxBits).tail = 1 ∧ (receive s.line.rxBits).checkOk = true
      let flags : Prop := s.line.phase = .error ∧ ∃ e run last, s.line.error = some e ∧ e.flag = .active ∧ e.progress = .flag run last
        ∧ run < 6
      ∃ t : State, step s = .next t
        ∧ (t.line.driver = .dominant ↔ s.mayDrive = true ∧ (sends ∨ acknowledges ∨ flags ∨ s.pins.driverFault[1]? = some true))

/-- Of two frames whose arbitration fields differ, the sender of the one with the higher field, sampling the bits of the other, loses
arbitration at one of them, having found neither a loss nor an error before it; the sender of the lower one completes. -/
def Obligations.LowerFieldWinsArbitration : Prop :=
  ∀ (f g : Frame) (ack : Level), fieldValue (arbitrationBits f) < fieldValue (arbitrationBits g) →
    (∃ k, k < frameLength f ∧ compareSent (sentBits g) ((lineBits f ack).take (k + 1)) = .lost
        ∧ ∀ j, j ≤ k → compareSent (sentBits g) ((lineBits f ack).take j) = .going)
      ∧ compareSent (sentBits f) (lineBits f ack) = .complete

/-- Resynchronisation within a frame, error flag or delimiter, at the end of a quantum p of a bit of nominal length in which the first
recessive-to-dominant edge since the last sample is seen while the station drives recessive: a late edge (p from 2 to 11) lengthens segment A
by p - 1 quanta but by no more than 2; an early edge (p from 12 to 16) shortens segment B by 17 - p quanta but by no more than 2, so that the
next bit begins after quantum 14 at the latest, quantum 15 or 16 itself being its first (whatever the station drives in that next bit, which is
the model's choice, log 53); an edge in quantum 1 changes nothing. What the one sample of a bit, at the end of segment A, does: it adds to the
bits of a frame that is not decided (log 8), to the recessive run of INTEGRATING and to the bits of the GAP; an active flag ends with its sixth
sample, a passive one with six equal ones in a row, the delimiter begins with the next recessive bit and counts to 8, and a dominant bit before
that sets it back; the dominant run counts to 400 and the clearing run of a stuck line to 12, each from 0 again at the other level; OFFLINE
with the line not stuck counts a recovery run for every 12 recessive bits in a row. A driver that is dominant has its time counted. That a step
on an empty queue ends a quantum is the model's choice (log 1), and so is what holds the driver in a fault (log 46). -/
def Obligations.BitTimingAndSamples : Prop :=
  (∀ (s : State) (p : Nat), s.pending = [] → s.supply.oscillator = .stable → (s.line.phase = .frame ∨ s.line.phase = .error) →
    s.line.driver = .recessive → s.line.seen = .recessive → s.pins.linePeers.head? = some .dominant → s.pins.driverFault.head? ≠ some true → 1 ≤ p → p ≤ 16 →
    s.line.bitPos = some { cycle := 9, quantum := p, segA := 10, segB := 5, resynced := false } →
    ∃ t, step s = .next t
      ∧ (p = 1 → t.line.bitPos = some { cycle := 0, quantum := 2, segA := 10, segB := 5, resynced := false })
      ∧ (2 ≤ p → p ≤ 11 →
          t.line.bitPos = some { cycle := 0, quantum := p + 1, segA := 10 + min 2 (p - 1), segB := 5, resynced := true })
      ∧ (12 ≤ p → p ≤ 13 → t.line.bitPos = some { cycle := 0, quantum := p + 1, segA := 10, segB := 3, resynced := true })
      ∧ (p = 14 → t.line.bitPos = some { cycle := 0, quantum := 1, segA := 10, segB := 5, resynced := true })
      ∧ (15 ≤ p → t.line.bitPos = some { cycle := 0, quantum := 2, segA := 10, segB := 5, resynced := true }))
    ∧ ∀ (s : State) (b : BitPos), s.pending = [] → s.supply.oscillator = .stable → s.line.bitPos = some b → b.cycle = 9 →
      b.quantum = 1 + b.segA → 1 ≤ b.segB →
      let driver : Level := if s.pins.driverFault.head? = some true ∧ s.mayDrive = true then .dominant else s.line.driver
      let level : Level := if driver = .dominant then .dominant else s.pins.linePeers.head?.getD .recessive
      let run (e : ErrorInHand) (n : Nat) (last : Level) : Nat := if e.flag = .active ∨ n = 0 ∨ level = last then n + 1 else 1
      let counts : Prop := s.line.confinement = .offline ∧ s.line.stuck = false
      (s.line.seen = .recessive → level = .dominant → (s.line.phase = .frame ∨ s.line.phase = .error) →
          driver = .dominant ∨ b.resynced = true) →
      ∃ t : State, step s = .next t
        ∧ t.line = { s.line with
            driver := driver
            seen := level
            bitPos := some { b with cycle := 0, quantum := b.quantum + 1, resynced := false }
            recessiveRun := if s.line.phase ≠ .integrating then s.line.recessiveRun
              else if level = .recessive then min 9 (s.line.recessiveRun + 1) else 0
            gapBits := if s.line.phase = .gap then min 3 (s.line.gapBits + 1) else s.line.gapBits
            rxBits := if s.line.phase = .frame ∧ s.line.finished = none ∧ s.line.errorSeen = none then s.line.rxBits ++ [level]
              else s.line.rxBits
            error := t.line.error
            driveTime := if driver = .dominant then min (25 * 160) (s.line.driveTime + 1) else 0
            dominantRun := if level = .dominant then min 400 (s.line.dominantRun + 1) else 0
            clearingRun := if level = .dominant then 0 else if s.line.stuck then min 12 (s.line.clearingRun + 1) else s.line.clearingRun
            recoveryBits := if ¬ counts then s.line.recoveryBits else if level = .dominant ∨ 12 ≤ s.line.recoveryBits + 1 then 0
              else s.line.recoveryBits + 1
            recoveryRuns := if counts ∧ level = .recessive ∧ 12 ≤ s.line.recoveryBits + 1 then min 64 (s.line.recoveryRuns + 1)
              else s.line.recoveryRuns }
        ∧ (s.line.phase ≠ .error → t.line.error = s.line.error)
        ∧ ∀ e, s.line.phase = .error → s.line.error = some e → ∃ p, t.line.error = some { e with progress := p }
            ∧ (∀ n last, e.progress = .flag n last →
                (run e n last < 6 → p = .flag (run e n last) level) ∧ (6 ≤ run e n last → p = .waiting))
            ∧ (e.progress = .waiting → p = if level = .recessive then .delimiter 1 else .waiting)
            ∧ ∀ n, e.progress = .delimiter n →
                (8 ≤ n → p = .delimiter n) ∧ (n < 8 → p = if level = .recessive then .delimiter (n + 1) else .waiting)

/-! ### The reciprocal stage and the share computation -/

/-- R44, R45 and R46: RECIP's normalisation, its seed, and the refinement, never too large, with the bounds and the table the rules give. -/
def Obligations.RecipNormalisesSeedsRefines : Prop :=
  ((∀ d, 1 ≤ d → d ≤ 16383 →
      recipNormal d = d * 2 ^ recipZeros d ∧ 2 ≤ recipZeros d ∧ recipZeros d ≤ 15
        ∧ 32768 ≤ recipNormal d ∧ recipNormal d ≤ 65535
        ∧ 2 ^ (15 - recipZeros d) ≤ d ∧ d < 2 ^ (16 - recipZeros d))
    ∧ (recipZeros 1 = 15 ∧ recipNormal 1 = 32768) ∧ (recipZeros 203 = 8 ∧ recipNormal 203 = 51968)
    ∧ (recipZeros 330 = 7 ∧ recipNormal 330 = 42240) ∧ (recipZeros 2000 = 5 ∧ recipNormal 2000 = 64000)
    ∧ (recipZeros 16320 = 2 ∧ recipNormal 16320 = 65280))
    ∧ (List.range 16).map (fun k => recipSeed (2048 * (k + 16)))
      = [123361, 116508, 110376, 104857, 99864, 95325, 91180, 87381, 83886, 80659, 77672, 74898, 72315, 69905, 67650, 65536]
    ∧ (∀ m, 32768 ≤ m → m ≤ 65535 →
        m / 2048 - 16 ≤ 15 ∧ recipSeed m = 2 ^ 21 / (m / 2048 - 16 + 17) ∧ m < 2048 * (m / 2048 - 16 + 17)
          ∧ m * recipSeed m < 2 ^ 32
          ∧ 2 ^ 32 < 2 ^ 33 - m * recipSeed m ∧ 2 ^ 33 - m * recipSeed m < 2 ^ 33
          ∧ recipRefine m (recipSeed m) = recipSeed m * (2 ^ 33 - m * recipSeed m) / 2 ^ 32
          ∧ recipSeed m * (2 ^ 33 - m * recipSeed m) < 2 ^ 50
          ∧ m * recipRefine m (recipSeed m) ≤ 2 ^ 32
          ∧ (2 ^ 32 - m * recipRefine m (recipSeed m)) * 10000 ≤ 36 * 2 ^ 32)
    ∧ ∀ k, k ≤ 15 → (2 ^ 32 - 2048 * (k + 16) * recipSeed (2048 * (k + 16))) * 100 < 6 * 2 ^ 32

/-- R47: RECIP's result is the refined value scaled back; it never exceeds 2^24 / D and falls short of it by less than 0.4 %. -/
def Obligations.RecipScalesBack : Prop :=
  (∀ d, 1 ≤ d → d ≤ 16383 →
      recip d = recipRefine (recipNormal d) (recipSeed (recipNormal d)) * 2 ^ recipZeros d / 256
        ∧ recip d * d ≤ 2 ^ 24 ∧ (2 ^ 24 - recip d * d) * 1000 < 4 * 2 ^ 24)
    ∧ 2 ^ 24 / 330 - recip 330 = 17 ∧ 2 ^ 24 / 203 - recip 203 = 48 ∧ 2 ^ 24 - recip 1 = 58112

/-- No grant exceeds its claim's request, a STANDBY claim is granted nothing, and the computed grants of a view sum to no more than the
budget used. The reciprocal stage takes class sums up to 16,383. -/
def Obligations.GrantsNeverExceedBudget : Prop :=
  ∀ (view : List Claim) (budget : Nat), (∀ c, classDemand view c ≤ 16383) →
    (∀ x ∈ view, grantOf view budget x ≤ x.request) ∧ (∀ x ∈ view, x.cls = .standby → grantOf view budget x = 0)
      ∧ (computeGrants view budget).sum ≤ budget

/-- The class-ordered fill in closed form. With L the sum of the requests of the classes above a claim's and D that of its own: the claim
gets its request where L + D is within the budget used, nothing where L alone takes the budget up and D is above 0, and the truncated share
floor(request × (U - L) × RECIP(D) / 2^24) between. -/
def Obligations.FillServesClassesInOrder : Prop :=
  ∀ (view : List Claim) (budget : Nat) (x : Claim), x ∈ view → x.cls ≠ .standby →
    let served := servedClasses.takeWhile fun c => decide (c ≠ x.cls)
    let l := (served.map (classDemand view)).sum
    let d := classDemand view x.cls
    (l + d ≤ budget → grantOf view budget x = x.request)
      ∧ (budget ≤ l → 0 < d → grantOf view budget x = 0)
      ∧ (l < budget → budget < l + d → grantOf view budget x = x.request * (budget - l) * recip d / 2 ^ 24)

/-! ### Supply, clocks, mains, sleep -/

/-- A dip puts the part in reset with its outputs at rest, its retained store kept and the start cause DIP; while in reset a loss of the
store leaves the cause COLD and the store empty, and every command but this and START leaves the part as it stands. That a command in reset
has no effect (log 2), and what else the retained store is (log 5), are the model's. -/
def Obligations.DipEntersReset : Prop :=
  (∀ s : State, s.supply.power = .running →
      ∃ t, exec .supplyDipReset s = .next t ∧ t.supply.power = .reset ∧ t.supply.cause = .dip
        ∧ t.line.driver = .recessive ∧ t.conv.gateHigh = false ∧ t.conv.gateLow = false ∧ t.test.gate = false
        ∧ t.batt.discharge = .closed ∧ t.batt.charge = .opened ∧ t.statusLevel = true ∧ t.powerEnable = false ∧ t.holdLine = false
        ∧ t.supply.oscillator = .stopped
        ∧ t.test.results = s.test.results ∧ t.term.mode = (if s.term.mode = .fault then .fault else .off)
        ∧ t.clock = s.clock ∧ t.pins = s.pins ∧ t.pending = s.pending)
    ∧ (∀ s : State, s.supply.power = .reset →
        exec .retainedStoreLoss s = .next { s with
          supply := { s.supply with cause := .cold }
          term := {}
          test := { s.test with results := [] } })
    ∧ ∀ (c : Instr) (s : State), s.supply.power = .reset → (∀ p, c ≠ .start p) → c ≠ .retainedStoreLoss → exec c s = .next s

/-- A start: the cause as marked, the straps and the mains sense read, every block at its start values, the retained store kept at a DIP and
emptied at a COLD start, an outage onset with its schedules if mains is absent, join timer, interval timer and oscillator started. The pins
are read with the command (log 36). Where the spec gives no start value the model's own stands: t0 is 0 (log 6), and the on-time command, the
level last seen and the frame start are those of reset (log 4). -/
def Obligations.StartTakesStartValues : Prop :=
  ∀ (p : StartPins) (s : State), s.supply.power = .reset →
    ∃ t, exec (.start p) s = .next t ∧ t.supply.power = .running ∧ t.supply.cause = s.supply.cause
      ∧ t.supply.strapWord = p.straps ∧ t.supply.mains = p.mains ∧ t.supply.mainsCandidate = p.mains
      ∧ t.supply.onset = (if p.mains = .absent then some s.clock else none)
      ∧ t.supply.oscillator = .starting s.clock ∧ t.supply.asleep = false ∧ t.supply.sleepRequest = false
      ∧ t.round = { tempo := if p.mains = .absent then .fast else .slow, joinTimer := some (s.clock + 31 * 3200000) }
      ∧ t.peers = {} ∧ t.share = {} ∧ t.demand = {} ∧ t.line = {} ∧ t.batt = {} ∧ t.status = {}
      ∧ t.conv = { intervalTimer := s.clock + 2000 * 3200, riserLowShut := decide (p.riser < 3900) }
      ∧ t.term =
          { mode := if s.supply.cause = .dip ∧ s.term.mode = .fault then .fault else .off
            candidate := demandLevelOf p.demand
            candidateSince := s.clock
            keepAlive :=
              if p.mains = .absent then some (s.clock + (60 + 15 * (strapAddress p.straps).val) * 3200000) else none }
      ∧ t.test =
          { results := if s.supply.cause = .dip then s.test.results else []
            schedule :=
              if p.mains = .absent then
                (strapTestInterval p.straps).map (fun _ => s.clock + (600 + 60 * (strapAddress p.straps).val) * 3200000)
              else none }
      ∧ t.pins.ready = p.ready ∧ t.pending = s.pending

/-- The strap word decodes into its six fields by bit position, for every word, and no command but a start changes it. -/
def Obligations.StrapWordFixedFromStart : Prop :=
  (∀ w : BitVec 16,
      (strapAddress w).val = w.toNat / 1024
        ∧ strapRating w = ([500, 750, 1000, 1500, 2000, 2500, 3000, 4000][w.toNat / 128 % 8]?).getD 0
        ∧ strapCeiling w = ([40, 80, 120, 160][w.toNat / 32 % 4]?).getD 0
        ∧ strapProfile w = w.toNat / 8 % 4
        ∧ strapChemistry w = (if w.toNat / 4 % 2 = 1 then .lithium else .leadAcid)
        ∧ strapTestInterval w
            = ([none, some (7200 * 3200000), some (14400 * 3200000), some (28800 * 3200000)][w.toNat % 4]?).getD none)
    ∧ ∀ (c : Instr) (s t : State), exec c s = .next t → (∀ p, c ≠ .start p) → t.supply.strapWord = s.supply.strapWord

/-- After 2 ms of STARTING the oscillator is STABLE: the line controller integrates from a recessive run of 0, the converter grid begins at
this moment with the station's offset and its first measurement event 50 periods later, and a status frame that was due starts with the
station as it stands. That the bit position begins at quantum 1, cycle 0, of this moment is the model's choice (log 45). -/
def Obligations.OscillatorBecomesStable : Prop :=
  ∀ (s : State) (since : Time), s.supply.power = .running → s.supply.oscillator = .starting since → since + 2 * 3200 ≤ s.clock →
    s.status.frame = none →
    ∃ t : State, exec .fastOscillatorStable s = .next t.askSleep ∧ t.supply.oscillator = .stable
      ∧ t.line = { s.line with
          phase := .integrating, role := .none, bitPos := some {}, seen := .recessive, recessiveRun := 0, rxBits := [] }
      ∧ t.conv = { s.conv with
          timeBase := some
            { nextPeriod := s.clock + 4 * (s.address.val % 16)
              nextMeasure := s.clock + 50 * 64 }
          onTime := .none }
      ∧ t.status = (if s.status.pending then
            { s.status with frame := some { bytes := statusBytes s, began := s.clock }, pending := false }
          else s.status)
      ∧ t = { s with supply := t.supply, line := t.line, conv := t.conv, status := t.status }

/-- A change of the mains sense makes the new level the candidate, its time starting now. A candidate of absence that has stood 100 ms with
mains PRESENT makes the mains state ABSENT, an outage onset: the schedules are formed, a slow MEMBER's round timer is re-armed by mains-fail
arming, the charge switch follows its conditions, and a sleeping part is awake. A terminal that acts starts its idle timer if ACTIVE at demand
IDLE, and the tests of an outage are applied to it: at CUTOFF one whose draw the feed grant does not cover goes OFF (CUTOFF), at RESERVE one
ACTIVE at demand IDLE or WANTED below its draw goes to HOLD, and a pending wake is made if its gating holds without mains. Of a sleeping part
the wake changes line, battery window and repeat timer as SleepAndWake states. -/
def Obligations.MainsFailIsOutageOnset : Prop :=
  (∀ (l : MainsState) (s : State), s.supply.power = .running → l ≠ s.supply.mainsCandidate →
      exec (.mainsSenseChange l) s
        = .next (State.askSleep { s with supply := { s.supply with mainsCandidate := l, mainsSince := s.clock } }))
    ∧ ∀ s : State, s.supply.power = .running → s.supply.mains = .present → s.supply.mainsCandidate = .absent →
    s.supply.mainsSince + 100 * 3200 ≤ s.clock →
    ∃ t : State, exec .mainsFail s = .next t.askSleep ∧ t.supply.mains = .absent ∧ t.supply.onset = some s.clock ∧ t.supply.asleep = false
      ∧ t.term.keepAlive = some (s.clock + (60 + 15 * s.address.val) * 3200000)
      ∧ (s.batt.band = .unrated → t.term = { s.term with keepAlive := t.term.keepAlive })
      ∧ (s.batt.band ≠ .unrated →
          let grant := s.share.feedGrant
          let cutoff : Prop := s.batt.band = .cutoff ∧ ((s.term.mode = .hold ∧ grant < s.holdDraw)
            ∨ (s.term.mode = .booting ∧ grant < s.bootDraw) ∨ (s.term.mode = .active ∧ grant < s.activeDraw))
          let forced : Prop := s.batt.band = .reserve ∧ s.term.mode = .active ∧ (s.term.demand = .idle ∨ s.term.demand = .wanted)
            ∧ grant < s.activeDraw
          (cutoff → t.term = { s.term with
                mode := .off, offReason := .cutoff, bootTimer := none, idleTimer := none, retryCount := 0, wakeMark := false
                keepAlive := t.term.keepAlive }
              ∧ t.test.results = s.test.results ∧ (s.term.wakeMark = true → t.test.wakeCheck = none))
            ∧ (forced → s.term.wakePending = false → t.term = { s.term with
                mode := .hold, idleTimer := none, bootTimer := none, keepAlive := t.term.keepAlive })
            ∧ (s.term.wakePending = true → (s.term.mode = .hold ∨ s.term.mode = .off) → s.pins.ready = false → s.test.context = none →
                (s.batt.band = .full ∨ s.batt.band = .good ∨ s.batt.band = .low
                  ∨ (s.batt.band = .reserve ∧ (s.term.demand = .emergency ∨ s.bootDraw ≤ grant))
                  ∨ (s.batt.band = .cutoff ∧ s.bootDraw ≤ grant)) →
                t.term = { s.term with
                    mode := .booting, bootTimer := some s.clock, idleTimer := none, retryWait := none, wakePending := false
                    wakeMark := decide (s.term.mode = .hold), keepAlive := t.term.keepAlive }
                  ∧ t.test.wakeCheck = (if s.term.mode = .hold then some s.batt.band else s.test.wakeCheck))
            ∧ (¬ cutoff → ¬ forced → s.term.wakePending = false → t.term = { s.term with
                idleTimer := if s.term.mode = .active ∧ s.term.demand = .idle then some s.clock else s.term.idleTimer
                keepAlive := t.term.keepAlive }))
      ∧ t.test.schedule = s.testInterval.map (fun _ => s.clock + (600 + 60 * s.address.val) * 3200000) ∧ t.test.due = false
      ∧ t.round = { s.round with timer := t.round.timer }
      ∧ t.round.timer = (if s.round.participation = .member ∧ s.round.tempo = .slow then
            s.round.timer.map (fun e =>
              min e (max s.clock (s.round.t0 + 700 * 3200) + 50 * 3200 + 2 * (s.address.val + 1) * 3200))
          else s.round.timer)
      ∧ (t.batt.charge = .closed ↔ t.chargeCloses = true)
      ∧ (s.supply.asleep = false → t.line = s.line ∧ t.status = s.status)
      ∧ t = { s with
          supply := t.supply, round := t.round, line := t.line, batt := t.batt, term := t.term, test := t.test
          status := { s.status with repeatTimer := t.status.repeatTimer } }

/-- A candidate of presence that has stood 5 s with mains ABSENT makes the mains state PRESENT: the keep-alive and test schedules are dropped,
a test in flight is aborted with its record, the converter goes to IDLE unless DISABLED, its fault history cleared on that entry, and a
terminal in HOLD, FAULT or OFF that acts boots. -/
def Obligations.MainsReturnEndsOutage : Prop :=
  ∀ s : State, s.supply.power = .running → s.supply.mains = .absent → s.supply.mainsCandidate = .present →
    s.supply.mainsSince + 5 * 3200000 ≤ s.clock →
    ∃ t : State, exec .mainsReturn s = .next t.askSleep ∧ t.supply.mains = .present ∧ t.supply.asleep = false
      ∧ t.term.keepAlive = none ∧ t.test.schedule = none ∧ t.test.due = false ∧ t.test.carry = false ∧ t.test.carryCount = 0
      ∧ t.test.context = none
      ∧ (∀ c, s.test.context = some c → t.test.results.head? = some
          { kind := .pulse, verdict := .aborted, value := none, round := s.round.number, band := c.startBand })
      ∧ (s.test.context = none → s.pins.ready = false → t.test.results = s.test.results)
      ∧ t.conv.mode = (if s.conv.mode = .disabled then .disabled else .idle)
      ∧ ((s.conv.mode = .run ∨ s.conv.mode = .held ∨ s.conv.mode = .riserAbsent) →
          t.conv.latchMark = false ∧ t.conv.latchCount = 0 ∧ t.conv.peakRun = 0 ∧ t.conv.feedSetpoint = 0 ∧ t.conv.chargeSetpoint = 0
            ∧ t.conv.gateHigh = false ∧ t.conv.gateLow = false)
      ∧ ((s.conv.mode = .idle ∨ s.conv.mode = .disabled) → t.conv = s.conv)
      ∧ (s.batt.band ≠ .unrated → t.term.idleTimer = none ∧ t.term.wakePending = false ∧ t.term.deferredHold = false)
      ∧ (s.batt.band ≠ .unrated → s.pins.ready = false →
          (s.term.mode = .hold ∨ s.term.mode = .fault ∨ (s.term.mode = .off ∧ s.term.offReason ≠ .start)) →
          t.term.mode = .booting ∧ t.term.bootTimer = some s.clock
            ∧ t.term.retryCount = (if s.term.mode = .off ∧ s.term.offReason = .retry then s.term.retryCount else 0))
      ∧ (t.batt.charge = .closed ↔ t.chargeCloses = true)
      ∧ (s.supply.asleep = false → t.line = s.line ∧ t.status = s.status)
      ∧ t = { s with
          supply := t.supply, line := t.line, conv := t.conv, batt := t.batt, term := t.term, test := t.test
          status := { s.status with repeatTimer := t.status.repeatTimer } }

/-- The round timer's lead time wakes a sleeping part and clears the sleep request; a line edge wakes one and sets its missed-round mark, also when
another source woke the part at the same moment, and else changes nothing. A wake starts the repeat timer if its other conditions hold. Sleep
is entered once the sleep frame is sent and every condition holds, and not with the request, the frame or any condition wanting. What a
standing sleep request does at the end of a command: with every condition true and no sleep frame asked for, one is asked for, begun at once
with a free reporter and a STABLE oscillator and pending otherwise; with a condition false the sleep frame is given up and the request stands;
a sleep frame that is waiting, being sent or sent while all hold is kept. That a frame so given up is asked for again is the model's reading
(log 22); that a line edge of the moment of a wake still marks the round is too (log 41). -/
def Obligations.SleepAndWake : Prop :=
  (∀ s : State, s.supply.power = .running → s.round.timer.isSome = true → s.leadTime ≤ s.clock → s.supply.asleep = false →
      exec .roundTimerLead s = .next { s with supply := { s.supply with sleepRequest := false, sleepFrame := .none } })
    ∧ (∀ s : State, s.supply.power = .running → s.supply.asleep = true →
        let woken : State := { s with
          supply := { s.supply with
            asleep := false, sleepRequest := false, sleepFrame := .none, oscillator := .starting s.clock, wokeAt := some s.clock }
          line := { s.line with
            phase := .integrating, role := .none, driver := .recessive, driveTime := 0, recessiveRun := 0, gapBits := 0, bitPos := none
            rxBits := [] }
          batt := { s.batt with window := [], evalCount := 0 }
          status := { s.status with
            repeatTimer :=
              if s.batt.band ≠ .unrated ∧ (s.round.participation = .listen ∨ s.round.referenced = false) then
                some (s.status.repeatTimer.getD (s.clock + 1000 * 3200))
              else none } }
        (s.round.timer.isSome = true → s.leadTime ≤ s.clock → exec .roundTimerLead s = .next woken)
          ∧ exec .lineEdgeWake s = .next { woken with round := { s.round with missed := true } })
    ∧ (∀ s : State, s.supply.power = .running → s.supply.asleep = false →
        (s.supply.wokeAt = some s.clock →
            exec .lineEdgeWake s = .next (State.askSleep { s with round := { s.round with missed := true } }))
          ∧ (s.supply.wokeAt ≠ some s.clock → exec .lineEdgeWake s = .next s.askSleep))
    ∧ ∀ s : State,
        let allowed : Prop := s.supply.mains = .present ∧ s.round.tempo = .slow ∧ s.round.participation = .member
          ∧ s.round.referenced = true ∧ s.line.phase = .idle ∧ s.line.queue = [] ∧ s.term.mode = .active ∧ s.test.context = none
          ∧ s.clock < s.round.t0 + (30000 - 20) * 3200
        (s.supply.power = .running → s.supply.sleepRequest = true → s.supply.sleepFrame = .sent → s.status.frame = none →
            s.supply.asleep = false → allowed →
            ∃ t, exec .enterSleep s = .next t ∧ t.supply.asleep = true ∧ t.supply.oscillator = .stopped
              ∧ t.supply.sleepRequest = false ∧ t.line = { s.line with driver := .recessive, driveTime := 0, bitPos := none }
              ∧ t.conv.timeBase = none ∧ t.conv.gateHigh = false ∧ t.conv.gateLow = false
              ∧ t.batt = s.batt ∧ t.term = s.term ∧ t = { s with supply := t.supply, line := t.line, conv := t.conv })
          ∧ (s.supply.power = .running → ¬ (s.supply.sleepRequest = true ∧ s.supply.sleepFrame = .sent ∧ s.status.frame = none
              ∧ s.supply.asleep = false ∧ allowed) → exec .enterSleep s = .next s.askSleep)
          ∧ (s.supply.sleepRequest = false → s.askSleep = s)
          ∧ (s.supply.sleepRequest = true → ¬ allowed → s.askSleep = { s with supply := { s.supply with sleepFrame := .none } })
          ∧ (allowed → s.supply.sleepFrame ≠ .none → s.askSleep = s)
          ∧ (s.supply.sleepRequest = true → allowed → s.supply.sleepFrame = .none →
              (s.status.frame = none → s.supply.oscillator = .stable → s.askSleep = { s with
                  supply := { s.supply with sleepFrame := .sending }
                  status := { s.status with frame := some { bytes := statusBytes s, began := s.clock }, pending := false } })
                ∧ ((s.status.frame ≠ none ∨ s.supply.oscillator ≠ .stable) → s.askSleep = { s with
                  supply := { s.supply with sleepFrame := .waiting }
                  status := { s.status with pending := true } }))

/-! ### Feed rounds -/

/-- A valid opening frame of another station, or of this station as its transmitter, is taken as the reference: t0 is its falling edge, tempo
and round number are its own, the points of the round are pending, the round timer is reloaded with the address skew in MEMBER, LISTEN is left
for MEMBER, and the converter re-aligns. The transmitter's or the receiver's error count falls by 1, and a recessive acknowledge slot adds to
the transmitter's unheard count. With no close event left over, every record whose round number last heard is not the frame's loses its heard
flags and its heard-mask entry. Then, unless MUTED, the snapshot: feed claim, charge claim, estimate and outage flag are frozen on the state as
it then stands; behind what is left in the queue, an opening frame and the completed frame gone, stand the feed notice and the charge notice, a
withdrawal of request 0 where the last charge class has no claim, neither in SLOW tempo with mains PRESENT; a carry request without a test or a
result in hand has its count raised by 1, and at 30 is deferred by 600 s with a record. Points of the round before are settled first: a close
event left over assembles its view, counts its notices unsent and starts the computation; a raising point is dropped; unless MUTED, a lowering
is applied at once, or is owed to the computation in flight; the other grants stand. The converter's next measurement event is at t0 + 3 ms,
and its next switching period begins the station's offset after the first boundary of the new grid that lies 10 µs or more on; that no period
begins before is log 39's choice. With the line-stuck flag set the frame completes and is not taken: reference, tempo, round number,
participation and points stay, and what waited for its end takes place, the close event or, suppressed by this very completion, the round timer
(the close event first, the model's choice, log 56). -/
def Obligations.OpeningFrameIsReference : Prop :=
  (∀ (o : Opening) (s : State), s.supply.power = .running → s.line.finished = some (.opening o) → s.line.stuck = false →
    (s.line.role = .transmitter ∨ o.addr ≠ s.address) →
    ∃ t, exec (.openingFrame o) s = .next t
      ∧ t.round.t0 = s.line.frameStart ∧ t.round.tempo = o.tempo ∧ t.round.number = o.round ∧ t.round.adopted = true
      ∧ t.round.referenced = true ∧ t.round.missed = false ∧ t.round.lastValid = some s.clock
      ∧ t.round.closePending = true ∧ t.round.loweringPending = true ∧ t.round.raisingPending = true
      ∧ t.round.participation = (if s.round.participation = .listen then .member else s.round.participation)
      ∧ t.round.joinTimer = (if s.round.participation = .listen then none else s.round.joinTimer)
      ∧ t.round.timer = (if s.round.participation = .muted then none
          else some (s.line.frameStart + period o.tempo + 2 * (s.address.val + 1) * 3200))
      ∧ (s.round.participation ≠ .muted → t.demand.claimsOpen = true)
      ∧ t.line.phase = .gap ∧ t.line.role = .none ∧ t.line.driver = .recessive
      ∧ t.line.txErrors = (if s.line.role = .transmitter then s.line.txErrors - 1 else s.line.txErrors)
      ∧ t.line.rxErrors = (if s.line.role = .transmitter then s.line.rxErrors else s.line.rxErrors - 1)
      ∧ t.line.unheard = (if s.line.role = .transmitter ∧ s.line.ackSampled = .recessive then min 255 (s.line.unheard + 1)
          else s.line.unheard)
      ∧ (s.round.closePending = false →
          t.peers.records = s.peers.records.map (fun e => if e.2.lastHeard = some o.round then e
              else (e.1, { e.2 with
                feed := e.2.feed.map fun x => { x with heard := false }
                charge := e.2.charge.map fun x => { x with heard := false } }))
            ∧ ∀ a, maskHas t.peers.heard a
                = (maskHas s.peers.heard a && s.peers.records.all fun e => decide (e.1 ≠ a) || decide (e.2.lastHeard = some o.round)))
      ∧ (s.round.participation ≠ .muted → ConfinementAgrees s →
          let mine (c : ClaimClass) (x : Nat) : Frame := .notice
            { cls := c, addr := s.address, request := BitVec.ofNat 8 x, estimate := BitVec.ofNat 12 t.budgetEstimate
              outage := s.supply.mains }
          let left := (if s.line.role = .transmitter then s.line.queue.tail else s.line.queue).filter Frame.isNotice
          t.demand.claims = some
              { feedClass := t.feedClaim.1, feedRequest := t.feedRequest, charge := t.chargeClaim, estimate := t.budgetEstimate
                outage := s.supply.mains }
            ∧ t.demand.lastCharge = t.chargeClaim.map Prod.fst ∧ t.demand.carryFormed = decide (t.feedClaim.1 = .test)
            ∧ t.line.queue = (if s.round.closePending then [] else left) ++ mine t.feedClaim.1 t.feedRequest ::
                (if o.tempo = .slow ∧ s.supply.mains = .present then []
                else match t.chargeClaim with
                  | some c => [mine c.1 c.2]
                  | none => (s.demand.lastCharge.map fun c => mine c 0).toList))
      ∧ (s.round.participation ≠ .muted → s.test.carry = true → s.test.context = none → s.test.inHand = none →
          (s.test.carryCount < 30 → t.test.carry = true ∧ t.test.carryCount = s.test.carryCount + 1)
            ∧ (30 ≤ s.test.carryCount → t.test.carry = false ∧ t.test.carryCount = 0 ∧ t.test.due = false
                ∧ t.test.schedule = some (s.clock + 600 * 3200000)
                ∧ t.test.results.head? = some
                    { kind := .pulse, verdict := .deferred, value := none, round := o.round, band := s.batt.band }))
      ∧ t.round.loweringDue = false ∧ t.round.raisingDue = false
      ∧ (s.round.closePending = true → t.peers.view = assembleView s.peers.records ∧ t.share.inFlight = true)
      ∧ (ConfinementAgrees s → t.line.unsent = (if s.round.closePending then min 255 (s.line.unsent
          + ((if s.line.role = .transmitter then s.line.queue.tail else s.line.queue).filter Frame.isNotice).length) else s.line.unsent))
      ∧ (let owed : Prop := s.round.participation ≠ .muted ∧ (s.round.loweringPending = true ∨ s.round.owedLowering = true)
        let waits : Prop := s.share.inFlight = true ∨ s.round.closePending = true
        (t.round.owedLowering = true ↔ owed ∧ waits)
          ∧ (owed → ¬ waits → t.share.feedGrant = min s.share.feedGrant s.share.computedFeed
              ∧ t.share.chargeGrant = min s.share.chargeGrant s.share.computedCharge)
          ∧ ((¬ owed ∨ waits) → t.share.feedGrant = s.share.feedGrant ∧ t.share.chargeGrant = s.share.chargeGrant))
      ∧ (∀ tb, s.conv.timeBase = some tb →
          ∃ tb' k, t.conv.timeBase = some tb' ∧ tb'.nextMeasure = s.line.frameStart + 3 * 3200
            ∧ tb'.nextPeriod = s.line.frameStart + 64 * k + 4 * (s.address.val % 16) ∧ s.clock + 32 ≤ s.line.frameStart + 64 * k
            ∧ ∀ j, j < k → s.line.frameStart + 64 * j < s.clock + 32)
      ∧ t.supply = { s.supply with sleepRequest := false, sleepFrame := .none }
      ∧ t.status.frame = s.status.frame ∧ t.status.pending = s.status.pending
      ∧ t.pins = s.pins ∧ t.clock = s.clock ∧ t.pending = s.pending)
    ∧ ∀ (o : Opening) (s : State), s.supply.power = .running → s.line.finished = some (.opening o) → s.line.stuck = true →
      (s.line.role = .transmitter ∨ o.addr ≠ s.address) → ConfinementAgrees s →
      ∃ t : State, exec (.openingFrame o) s = .next t.askSleep ∧ t.line.phase = .gap ∧ t.line.role = .none
        ∧ t.line.txErrors = (if s.line.role = .transmitter then s.line.txErrors - 1 else s.line.txErrors)
        ∧ t.line.rxErrors = (if s.line.role = .transmitter then s.line.rxErrors else s.line.rxErrors - 1)
        ∧ t.round = { s.round with
            lastValid := some s.clock
            missed := s.timerExpired || s.round.missed
            timer := if s.timerExpired then some (s.clock + period s.round.tempo + 2 * (s.address.val + 1) * 3200) else s.round.timer
            closePending := s.round.closePending && !s.closeDue
            viewOutage := t.round.viewOutage }
        ∧ (s.closeDue = false → t = { s with round := { t.round with viewOutage := s.round.viewOutage }, line := t.line })
        ∧ (s.closeDue = true → t.peers.view = assembleView s.peers.records
            ∧ t = { s with round := t.round, peers := t.peers, share := t.share, demand := t.demand, line := t.line, conv := t.conv,
                           batt := t.batt })

/-- A valid frame that bears the station's address and that it did not transmit reveals an address clash: the station is MUTED, its timers
stopped, its record removed, its queue empty, its grants 0, its claims SPENT, its points dropped and a test in flight aborted. That it is MUTED
before a close event that waited for the frame occurs is the model's choice (log 50). At a station that is MUTED already such a frame changes
nothing of the round but the last valid completion, and no record; a close event that waited for it occurs on the records as they stand. -/
def Obligations.AddressClashMutes : Prop :=
  (∀ (c : Instr) (s : State), s.supply.power = .running → s.line.role ≠ .transmitter → s.round.participation ≠ .muted →
    ((∃ o : Opening, c = .openingFrame o ∧ s.line.finished = some (.opening o) ∧ o.addr = s.address)
      ∨ ∃ n : Notice, c = .notice n ∧ s.line.finished = some (.notice n) ∧ n.addr = s.address) →
    ∃ t, exec c s = .next t ∧ t.round.participation = .muted ∧ t.round.timer = none ∧ t.round.joinTimer = none
      ∧ t.round.loweringPending = false ∧ t.round.raisingPending = false
      ∧ findRecord s.address t.peers.records = none ∧ maskHas t.peers.present s.address = false ∧ t.line.queue = []
      ∧ t.share.feedGrant = 0 ∧ t.share.chargeGrant = 0 ∧ t.demand.claimsOpen = false ∧ t.test.context = none
      ∧ t.round.t0 = s.round.t0 ∧ t.round.number = s.round.number
      ∧ (let others := s.peers.records.filter fun e => decide (e.1 ≠ s.address)
        let closes : Prop := s.round.closePending = true ∧ s.round.missed = false ∧ s.round.t0 + 600 * 3200 ≤ s.clock
        (closes → t.round.closePending = false ∧ t.peers.view = assembleView others)
          ∧ (¬ closes → t.round.closePending = s.round.closePending ∧ t.peers.records = others))
      ∧ t.supply = { s.supply with sleepRequest := false, sleepFrame := .none }
      ∧ t.status.frame = s.status.frame ∧ t.status.pending = s.status.pending
      ∧ t.pins = s.pins ∧ t.clock = s.clock ∧ t.pending = s.pending)
    ∧ ∀ (c : Instr) (s : State), s.supply.power = .running → s.line.role ≠ .transmitter → s.round.participation = .muted →
      ((∃ o : Opening, c = .openingFrame o ∧ s.line.finished = some (.opening o) ∧ o.addr = s.address)
        ∨ ∃ n : Notice, c = .notice n ∧ s.line.finished = some (.notice n) ∧ n.addr = s.address) → ConfinementAgrees s →
      ∃ t : State, exec c s = .next t.askSleep ∧ t.line.phase = .gap ∧ t.line.role = .none ∧ t.line.rxErrors = s.line.rxErrors - 1
        ∧ t.round = { s.round with
            lastValid := some s.clock, closePending := s.round.closePending && !s.closeDue, viewOutage := t.round.viewOutage }
        ∧ (s.closeDue = false → t = { s with
            round := { t.round with viewOutage := s.round.viewOutage }, line := t.line
            status := { s.status with repeatTimer := t.status.repeatTimer } })
        ∧ (s.closeDue = true → t.peers = s.peers.assemble ∧ t.share.inFlight = true
            ∧ t = { s with round := t.round, peers := t.peers, share := t.share, demand := t.demand, line := t.line, conv := t.conv,
                           batt := t.batt, status := { s.status with repeatTimer := t.status.repeatTimer } })

/-- A valid notice of another station, or of this one as its transmitter, is recorded under its address: the slot of its kind is filled heard
with holdover 2 (a charge notice of request 0 empties it), the other slot stays, estimate and outage flag are kept, the heard and the present
mask follow, and no other address's record or mask entry changes. It leaves the transmitter's queue, the error count of the station's role
falls by 1, and a recessive acknowledge slot adds to the transmitter's unheard count. A close event that waited for the frame's end then finds
the notice in its view; a round timer that waited for it finds this frame as its last valid completion and is suppressed: the missed-round mark
is set and the timer re-armed. That the close event comes first where both waited is the model's choice (log 56). -/
def Obligations.NoticeIsRecorded : Prop :=
  ∀ (n : Notice) (s : State), s.supply.power = .running → s.line.finished = some (.notice n) →
    (s.line.role = .transmitter ∨ n.addr ≠ s.address) → ConfinementAgrees s →
    let left := if s.line.role = .transmitter then s.line.queue.tail else s.line.queue
    ∃ t : State, exec (.notice n) s = .next t.askSleep ∧ t.round.lastValid = some s.clock ∧ t.line.phase = .gap ∧ t.line.role = .none
      ∧ t.line.txErrors = (if s.line.role = .transmitter then s.line.txErrors - 1 else s.line.txErrors)
      ∧ t.line.rxErrors = (if s.line.role = .transmitter then s.line.rxErrors else s.line.rxErrors - 1)
      ∧ t.line.unheard = (if s.line.role = .transmitter ∧ s.line.ackSampled = .recessive then min 255 (s.line.unheard + 1)
          else s.line.unheard)
      ∧ t.round.missed = (s.timerExpired || s.round.missed)
      ∧ t.round.timer = (if s.timerExpired then some (s.clock + period s.round.tempo + 2 * (s.address.val + 1) * 3200)
          else s.round.timer)
      ∧ (s.closeDue = false →
          (∃ r, findRecord n.addr t.peers.records = some r ∧ r.estimate = n.estimate.toNat ∧ r.outage = n.outage
              ∧ r.lastHeard = (if s.round.referenced ∧ s.round.missed = false ∧ s.round.closePending then some s.round.number else none)
              ∧ (isChargeClass n.cls = true → r.feed = (findRecord n.addr s.peers.records).bind PeerRecord.feed
                  ∧ r.charge = (if n.request = 0 then none
                    else some { cls := n.cls, request := n.request.toNat, holdover := 2, heard := true }))
              ∧ (isChargeClass n.cls = false → r.charge = (findRecord n.addr s.peers.records).bind PeerRecord.charge
                  ∧ r.feed = some
                    { cls := n.cls, request := if n.cls = .standby then 0 else n.request.toNat, holdover := 2, heard := true })
              ∧ maskHas t.peers.present n.addr = (r.feed.isSome || r.charge.isSome))
            ∧ (∀ a, a ≠ n.addr → findRecord a t.peers.records = findRecord a s.peers.records
                ∧ maskHas t.peers.heard a = maskHas s.peers.heard a ∧ maskHas t.peers.present a = maskHas s.peers.present a)
            ∧ maskHas t.peers.heard n.addr = true
            ∧ t.line.queue = left
            ∧ t.peers.view = s.peers.view ∧ t.peers.held = s.peers.held
            ∧ t = { s with round := t.round, peers := t.peers, line := t.line, conv := t.conv, batt := t.batt })
      ∧ (s.closeDue = true → t.peers.view = assembleView (s.peers.record n s.heardTag).records ∧ t.round.closePending = false
          ∧ t.line.queue = left.filter (fun f => !Frame.isNotice f)
          ∧ t = { s with round := t.round, peers := t.peers, share := t.share, demand := t.demand, line := t.line,
                         conv := t.conv, batt := t.batt })

/-- A round timer that expires with no frame in progress: within 200 ms of the last valid completion the missed-round mark is set and
nothing is queued; else a station that is neither OFFLINE nor stuck places an opening frame at the head of its queue, unless one of its own
is queued; on an idle line with a STABLE oscillator and no extra wait the one at the head is begun at once, and else it waits; in every case the
timer is re-armed to now + P + 2 ms × (address + 1). The frame bears the station's address, tempo FAST if mains is ABSENT or the view outage mark
is set and SLOW otherwise, and the round number + 1 modulo 256, or 0 with none adopted. That no frame is in progress for a station that is
INTEGRATING (log 42), and that the own start bit begins at cycle 0 of this moment (log 43), are the model's choices. -/
def Obligations.RoundTimerOpensRound : Prop :=
  ∀ (s : State) (e : Time), s.supply.power = .running → s.round.participation = .member → s.round.timer = some e → e ≤ s.clock →
    s.line.phase ≠ .frame → s.line.phase ≠ .error →
    let armed := some (s.clock + period s.round.tempo + 2 * (s.address.val + 1) * 3200)
    let o : Opening :=
      { addr := s.address
        tempo := if s.supply.mains = .absent ∨ s.round.viewOutage = true then .fast else .slow
        round := if s.round.adopted then BitVec.ofNat 8 ((s.round.number.toNat + 1) % 256) else 0 }
    let suppressed : Prop := ∃ v, s.round.lastValid = some v ∧ s.clock ≤ v + 200 * 3200
    let able : Prop := s.line.confinement ≠ .offline ∧ s.line.stuck = false
    let waits : Prop := s.line.phase ≠ .idle ∨ s.supply.oscillator ≠ .stable ∨ s.line.extraWait ≠ .none
    let queued : Prop := ∃ f ∈ s.line.queue, Frame.isNotice f = false
    let begun (l : LineState) : LineState := { l with
      phase := .frame, role := .transmitter, driver := .dominant, bitPos := some {}, seen := .dominant, gapBits := 0
      frameStart := s.clock, rxBits := [] }
    let placed : LineState := { s.line with queue := .opening o :: s.line.queue, failed := 0 }
    let answers (l : LineState) : Prop :=
      exec .roundTimerExpiry s = .next (State.askSleep { s with line := l, round := { s.round with timer := armed } })
    (suppressed → exec .roundTimerExpiry s = .next (State.askSleep { s with round := { s.round with missed := true, timer := armed } }))
      ∧ (¬ suppressed → ¬ able → answers s.line)
      ∧ (¬ suppressed → able → ¬ queued → (waits → answers placed) ∧ (¬ waits → answers (begun placed)))
      ∧ (¬ suppressed → able → queued → waits → answers s.line)
      ∧ (¬ suppressed → able → ∀ o' q, s.line.queue = .opening o' :: q → ¬ waits → answers (begun s.line))

/-- The join timer's expiry in LISTEN, which has no reference (StepKeepsGrantsCleared), makes the station MEMBER unreferenced with its round
timer armed to now + 2 ms × (address + 1). -/
def Obligations.JoinTimerMakesMember : Prop :=
  ∀ (s : State) (e : Time), s.supply.power = .running → s.round.participation = .listen → s.round.joinTimer = some e → e ≤ s.clock →
    s.round.referenced = false →
    ∃ t : State, exec .joinTimerExpiry s = .next t.askSleep ∧ t.round.referenced = false
      ∧ t.round = { s.round with
          participation := .member, joinTimer := none, timer := some (s.clock + 2 * (s.address.val + 1) * 3200) }
      ∧ (s.conv.mode ≠ .run → t.conv = s.conv ∧ t.batt = s.batt) ∧ t = { s with round := t.round, conv := t.conv, batt := t.batt }

/-- The close event: notices left in the queue are removed and counted unsent. Slot by slot, a heard slot brings its claim into the view,
heard, and is kept with its heard flag clear; an unheard one of holdover 2 or 1 brings its claim, held, and keeps one less; one of holdover 0
brings nothing and is emptied. The view runs by ascending record, the feed claim before the charge claim; a record with both slots empty is
removed; the present mask is that of the records left, the held mask that of the held claims, the heard mask clear. The budget used is the
least of the station's own estimate and those of the records marked heard, 4,095 left out, and 0 with none; the view outage mark is set exactly
if a claim of the view comes from a record whose outage flag is ABSENT; the claims are SPENT and the share computation starts. If its fill
meets a partial class it asks for the reciprocal stage, is taken at once at a FREE stage or at one that the test unit's request took at this
same moment (which then waits), and waits for any other. That a close event whose time comes while INTEGRATING, or with a frame in progress and
the line-stuck flag set before, occurs at once is the model's choice (logs 42, 52), and that one which comes with a computation in flight
starts it again is its reading (log 27); that the stage is asked for at the start of the computation is its choice (log 57). -/
def Obligations.CloseEventAssemblesView : Prop :=
  ∀ s : State, s.supply.power = .running → s.round.closePending = true → s.round.missed = false → s.round.participation ≠ .listen →
    s.round.t0 + 600 * 3200 ≤ s.clock → (s.line.stuck = true ∨ (s.line.phase ≠ .frame ∧ s.line.phase ≠ .error)) →
    let claim (a : Addr) (x : Slot) : Option Claim :=
      if x.heard ∨ 0 < x.holdover then some { addr := a, cls := x.cls, request := x.request, heard := x.heard } else none
    let kept (x : Slot) : Option Slot :=
      if x.heard then some { x with heard := false }
      else if 0 < x.holdover then some { x with holdover := x.holdover - 1 }
      else none
    let claims (e : Addr × PeerRecord) : List Claim := (e.2.feed.bind (claim e.1)).toList ++ (e.2.charge.bind (claim e.1)).toList
    let own := if s.demand.claimsOpen then (s.demand.claims.map RoundClaims.estimate).getD 4095 else 4095
    let counted := (own :: (s.peers.records.filter fun e => maskHas s.peers.heard e.1).map fun e => e.2.estimate).filter (· ≠ 4095)
    ∃ t : State, exec .closeEvent s = .next t.askSleep
      ∧ t.line.queue = s.line.queue.filter (fun f => !Frame.isNotice f)
      ∧ t.line.unsent = min 255 (s.line.unsent + (s.line.queue.filter Frame.isNotice).length)
      ∧ t.peers.view = s.peers.records.flatMap claims
      ∧ t.peers.records = (s.peers.records.map fun e =>
            (e.1, { e.2 with feed := e.2.feed.bind kept, charge := e.2.charge.bind kept })).filter
          (fun e => e.2.feed.isSome || e.2.charge.isSome)
      ∧ t.peers.heard = 0
      ∧ (∀ a, (maskHas t.peers.present a = true ↔ ∃ e ∈ t.peers.records, e.1 = a)
          ∧ (maskHas t.peers.held a = true ↔ ∃ c ∈ t.peers.view, c.addr = a ∧ c.heard = false))
      ∧ (counted = [] → t.share.budgetUsed = 0)
      ∧ (counted ≠ [] → t.share.budgetUsed ∈ counted ∧ ∀ e ∈ counted, t.share.budgetUsed ≤ e)
      ∧ t.share.inFlight = true
      ∧ t.share.computedFeed = s.share.computedFeed ∧ t.share.computedCharge = s.share.computedCharge
      ∧ t.share.feedGrant = s.share.feedGrant ∧ t.share.chargeGrant = s.share.chargeGrant
      ∧ (needsRecip t.peers.view t.share.budgetUsed = false → t.share.stage = s.share.stage ∧ t.share.waiting = s.share.waiting)
      ∧ (needsRecip t.peers.view t.share.budgetUsed = true → s.share.waiting = none →
          (s.share.stage = none → t.share.stage = some .share ∧ t.share.waiting = none)
            ∧ (s.share.stage = some .test → s.share.stageTaken = some s.clock →
                t.share.stage = some .share ∧ t.share.waiting = some .test)
            ∧ (s.share.stage = some .test → s.share.stageTaken ≠ some s.clock →
                t.share.stage = some .test ∧ t.share.waiting = some .share))
      ∧ t.round.closePending = false
      ∧ (t.round.viewOutage = true ↔ ∃ e ∈ s.peers.records, e.2.outage = .absent ∧ claims e ≠ [])
      ∧ t.demand = { s.demand with claimsOpen := false }
      ∧ t = { s with
          round := { s.round with closePending := false, viewOutage := t.round.viewOutage }
          peers := t.peers, share := t.share, demand := t.demand, line := t.line, conv := t.conv, batt := t.batt }

/-- The share computation completes when it is not waiting for the reciprocal stage: each computed own grant is the grant of the view's claim
of the station's own address, the feed one of a class other than RECOVER and TOPUP, the charge one of those two, and 0 where the view holds
none. A lowering owed to an early opening and a lowering point that waited bring each grant in force down to its computed value; a raising point
that waited, directly after the lowering, raises them within G_max, sets the sleep request and asks for a status frame; with none of them the
grants in force stand. A point of a round whose close event is pending waits on. A test in flight whose TEST request a lowering leaves uncovered
is aborted. A stage that served the computation passes to a request that waits, or is FREE; that it serves it up to here is the model's choice
(log 57). -/
def Obligations.ComputationWritesOwnGrants : Prop :=
  ∀ s : State, s.supply.power = .running → s.share.inFlight = true → s.share.waiting ≠ some .share →
    let granted (charge : Bool) : Nat :=
      ((s.peers.view.find? fun c => decide (c.addr = s.address) && decide (c.cls = .recover ∨ c.cls = .topup) == charge).map
        (grantOf s.peers.view s.share.budgetUsed)).getD 0
    let point : Bool := s.round.loweringPending && s.round.loweringDue && !s.round.closePending
    let lowers : Bool := s.round.owedLowering || point
    let raises : Bool := s.round.raisingPending && s.round.raisingDue && !s.round.closePending && (point || !s.round.loweringPending)
    let feed : Nat := if lowers then min s.share.feedGrant (granted false) else s.share.feedGrant
    let charge : Nat := if lowers then min s.share.chargeGrant (granted true) else s.share.chargeGrant
    ∃ t : State, exec .shareComputationComplete s = .next t.askSleep
      ∧ t.share.computedFeed = granted false
      ∧ t.share.computedCharge = granted true
      ∧ t.share.inFlight = false ∧ t.share.budgetUsed = s.share.budgetUsed
      ∧ t.share.stage = (if s.share.stage = some .share then s.share.waiting else s.share.stage)
      ∧ t.share.feedGrant = (if raises then max feed (granted false) else feed)
      ∧ t.share.chargeGrant = (if raises then min (max charge (granted true)) (s.ceiling - max feed (granted false)) else charge)
      ∧ t.round = { s.round with
          owedLowering := false
          loweringPending := s.round.loweringPending && !point
          loweringDue := s.round.loweringDue && !point
          raisingPending := s.round.raisingPending && !raises
          raisingDue := s.round.raisingDue && !raises
          reportPending := s.round.reportPending && !raises }
      ∧ (lowers = true → ∀ c, s.test.context = some c → feed < s.share.feedGrant → feed < c.request →
          raises = false → t.test.context = none)
      ∧ (raises = true → t.supply = { s.supply with sleepRequest := true, sleepFrame := .none }
          ∧ (t.status.frame.isSome = true ∨ t.status.pending = true))
      ∧ (lowers = false → raises = false → t.conv = s.conv ∧ t.batt = s.batt ∧ t.term = s.term
          ∧ t.test = { s.test with carry := t.test.carry })
      ∧ (raises = false → t.supply = s.supply ∧ t.status = s.status)
      ∧ t = { s with supply := t.supply, round := t.round, share := t.share, conv := t.conv, batt := t.batt, term := t.term,
                     test := t.test, status := t.status }

/-- The lowering point with its computation complete brings each grant in force down to its computed value where that is lower, steps a RUN
converter's setpoints down with it, ends the latch interval, and aborts a test in flight whose TEST request is left uncovered. A terminal that
acts, without a test in flight, answers a feed grant that falls: in an outage at CUTOFF one in HOLD, BOOTING or ACTIVE whose draw the grant no
longer covers goes OFF (CUTOFF), its timers stopped, retry count 0 and wake check ended without a record, its pending wake kept; at RESERVE one
ACTIVE at demand IDLE or WANTED below its draw goes to HOLD. A pending wake in HOLD or OFF is then made if its gating holds on the lowered
grant. With no fall the terminal stays as it is. With the computation still in flight the point waits and changes no grant. -/
def Obligations.LoweringPointLowersGrants : Prop :=
  ∀ s : State, s.supply.power = .running → s.round.loweringPending = true → s.round.missed = false →
    s.round.participation = .member → s.round.t0 + 650 * 3200 ≤ s.clock →
    (s.share.inFlight = false → s.round.closePending = false → s.round.raisingDue = false →
        ∃ t : State, exec .loweringPoint s = .next t.askSleep
          ∧ t.share = { s.share with
              feedGrant := min s.share.feedGrant s.share.computedFeed
              chargeGrant := min s.share.chargeGrant s.share.computedCharge }
          ∧ t.round = { s.round with loweringPending := false, loweringDue := false }
          ∧ t.conv.latchMark = false ∧ t.conv.latchCount = (if s.conv.latchMark then s.conv.latchCount else 0)
          ∧ t.conv.intervalTimer = s.clock + 2000 * 3200
          ∧ (s.conv.mode = .run → s.drawsByGrant = true →
              t.conv.feedSetpoint = min s.conv.feedSetpoint (min s.share.feedGrant s.share.computedFeed)
                ∧ t.conv.chargeSetpoint = min s.conv.chargeSetpoint (min (min s.share.chargeGrant s.share.computedCharge)
                    (s.ceiling - min s.share.feedGrant s.share.computedFeed)))
          ∧ (∀ c, s.test.context = some c → s.share.computedFeed < s.share.feedGrant → s.share.computedFeed < c.request →
              t.test.context = none)
          ∧ (s.test.context = none → s.share.feedGrant ≤ s.share.computedFeed → t.term = s.term)
          ∧ (s.test.context = none → s.share.computedFeed < s.share.feedGrant → s.supply.mains = .absent → s.batt.band = .cutoff →
              ((s.term.mode = .hold ∧ s.share.computedFeed < s.holdDraw) ∨ (s.term.mode = .booting ∧ s.share.computedFeed < s.bootDraw)
                ∨ (s.term.mode = .active ∧ s.share.computedFeed < s.activeDraw)) →
              t.term = { s.term with
                  mode := .off, offReason := .cutoff, bootTimer := none, idleTimer := none, retryCount := 0, wakeMark := false }
                ∧ t.test.results = s.test.results ∧ (s.term.wakeMark = true → t.test.wakeCheck = none))
          ∧ (s.test.context = none → s.share.computedFeed < s.share.feedGrant → s.supply.mains = .absent → s.batt.band = .reserve →
              s.term.mode = .active → (s.term.demand = .idle ∨ s.term.demand = .wanted) → s.share.computedFeed < s.activeDraw →
              s.term.wakePending = false →
              t.term = { s.term with mode := .hold, idleTimer := none, bootTimer := none })
          ∧ (s.test.context = none → s.share.computedFeed < s.share.feedGrant → s.batt.band ≠ .unrated → s.term.wakePending = true →
              (s.term.mode = .hold ∨ s.term.mode = .off) → s.pins.ready = false →
              (s.supply.mains = .present ∨ s.batt.band = .full ∨ s.batt.band = .good ∨ s.batt.band = .low
                ∨ (s.batt.band = .reserve ∧ (s.term.demand = .emergency ∨ s.bootDraw ≤ s.share.computedFeed))
                ∨ (s.batt.band = .cutoff ∧ s.bootDraw ≤ s.share.computedFeed)) →
              t.term = { s.term with
                  mode := .booting, bootTimer := some s.clock, idleTimer := none, retryWait := none, wakePending := false
                  wakeMark := decide (s.term.mode = .hold) }
                ∧ t.test.wakeCheck = (if s.term.mode = .hold then some s.batt.band else s.test.wakeCheck))
          ∧ t = { s with round := t.round, share := t.share, conv := t.conv, batt := t.batt, term := t.term, test := t.test })
      ∧ (s.share.inFlight = true →
          ∃ t : State, exec .loweringPoint s = .next t.askSleep ∧ t.share = s.share ∧ t.conv = s.conv
            ∧ t.round = { s.round with loweringDue := true }
            ∧ t = { s with round := t.round, test := { s.test with carry := t.test.carry } })

/-- The raising point, once computation and lowering are done, raises the feed grant in force to its computed value if that is greater and sets
the charge grant to the lesser of its risen value and what G_max leaves; it asks for a status frame and sets the sleep request. A pulse test
starts at it exactly if the carry request stands with no test or result in hand, the last snapshot formed a TEST claim whose request the risen
feed grant equals, the band is FULL or GOOD, the terminal HOLD or ACTIVE with demand IDLE, the converter RUN, in an outage, referenced and not
OFFLINE: in SETTLE with nothing counted, on this band, moment and request, with the carry count 0 and the charge switch OPEN (that its means
stand at 0 until they are formed is the model's choice, log 55). Without a test in flight a feed grant that rises has a pending wake in HOLD or
OFF made if its gating holds then: BOOTING, as a wake check exactly from HOLD, with no test started; else the wake stays pending. That the
terminal interface answers the risen grant before the test unit tests its start is the model's choice (log 25). While the computation is in
flight the point waits and raises nothing. -/
def Obligations.RaisingPointRaisesGrants : Prop :=
  ∀ s : State, s.supply.power = .running → s.round.raisingPending = true → s.round.missed = false →
    s.round.participation = .member → s.round.t0 + 700 * 3200 ≤ s.clock →
    (s.share.inFlight = false → s.round.closePending = false → s.round.loweringPending = false →
        ∃ t : State, exec .raisingPoint s = .next t.askSleep
          ∧ t.share = { s.share with
              feedGrant := max s.share.feedGrant s.share.computedFeed
              chargeGrant := min (max s.share.chargeGrant s.share.computedCharge)
                (s.ceiling - max s.share.feedGrant s.share.computedFeed) }
          ∧ (max s.share.feedGrant s.share.computedFeed ≤ s.ceiling → t.share.feedGrant + t.share.chargeGrant ≤ s.ceiling)
          ∧ t.round = { s.round with raisingPending := false, raisingDue := false, reportPending := false }
          ∧ t.supply = { s.supply with sleepRequest := true, sleepFrame := .none }
          ∧ (t.status.frame.isSome = true ∨ t.status.pending = true)
          ∧ ((s.term.wakePending = false ∨ s.share.computedFeed ≤ s.share.feedGrant) →
              let starts : Prop := s.test.carry = true ∧ s.test.context = none ∧ s.test.inHand = none ∧ s.demand.carryFormed = true
                ∧ max s.share.feedGrant s.share.computedFeed = (s.demand.claims.map RoundClaims.feedRequest).getD 0
                ∧ (s.batt.band = .full ∨ s.batt.band = .good)
                ∧ (s.term.mode = .hold ∨ (s.term.mode = .active ∧ s.term.demand = .idle)) ∧ s.conv.mode = .run
                ∧ s.supply.mains = .absent ∧ s.round.referenced = true ∧ s.line.confinement ≠ .offline
              (starts → t.test.carryCount = 0 ∧ t.batt.charge = .opened ∧ t.batt.conduction = 0 ∧ t.test.context = some
                  { phase := .settle, events := 0, settleVolt := 0, settleCurr := 0, vRest := 0, iRest := 0, loadVolt := 0, loadCurr := 0
                    vLoad := 0, iLoad := 0, startBand := s.batt.band, startTime := s.clock
                    request := max s.share.feedGrant s.share.computedFeed })
                ∧ (¬ starts → t.test.context = s.test.context ∧ t.test.carryCount = s.test.carryCount))
          ∧ (s.term.wakePending = true → s.share.feedGrant < s.share.computedFeed → s.batt.band ≠ .unrated → s.test.context = none →
              (s.term.mode = .hold ∨ s.term.mode = .off) →
              let allowed : Prop := s.supply.mains = .present ∨ s.batt.band = .full ∨ s.batt.band = .good ∨ s.batt.band = .low
                ∨ (s.batt.band = .reserve ∧ (s.term.demand = .emergency ∨ s.bootDraw ≤ s.share.computedFeed))
                ∨ (s.batt.band = .cutoff ∧ s.bootDraw ≤ s.share.computedFeed)
              (allowed → s.pins.ready = false →
                  t.term = { s.term with
                      mode := .booting, bootTimer := some s.clock, idleTimer := none, retryWait := none, wakePending := false
                      wakeMark := decide (s.term.mode = .hold) }
                    ∧ t.test.wakeCheck = (if s.term.mode = .hold then some s.batt.band else s.test.wakeCheck)
                    ∧ t.test.context = none ∧ t.test.carryCount = s.test.carryCount)
                ∧ (¬ allowed → t.term.wakePending = true ∧ (t.term.mode = .hold ∨ t.term.mode = .off)
                    ∧ (TerminalSafe s → t.term.bootTimer = none)))
          ∧ t = { s with supply := t.supply, round := t.round, share := t.share, conv := t.conv, batt := t.batt, term := t.term,
                         test := t.test, status := t.status })
      ∧ (s.share.inFlight = true →
          ∃ t : State, exec .raisingPoint s = .next t.askSleep ∧ t.round = { s.round with raisingDue := true }
            ∧ t = { s with round := t.round, test := { s.test with carry := t.test.carry } })

/-- Round age beyond 3 × P makes the station unreferenced: its points are dropped, its grants 0, its claims SPENT, a test in flight aborted.
-/
def Obligations.RoundAgeLimitClears : Prop :=
  ∀ s : State, s.supply.power = .running → s.round.referenced = true → s.round.participation ≠ .listen →
    s.round.t0 + 3 * period s.round.tempo < s.clock →
    ∃ t, exec .roundAgeLimit s = .next t ∧ t.round.referenced = false ∧ t.share.feedGrant = 0 ∧ t.share.chargeGrant = 0
      ∧ t.round.loweringPending = false ∧ t.round.raisingPending = false ∧ t.round.participation = s.round.participation
      ∧ t.round.number = s.round.number ∧ t.demand.claimsOpen = false ∧ t.test.context = none ∧ t.supply.sleepRequest = false
      ∧ (t.status.frame.isSome = true ∨ t.status.pending = true)
      ∧ t = { s with supply := t.supply, round := t.round, share := t.share, demand := t.demand, conv := t.conv, batt := t.batt,
                     term := t.term, test := t.test, status := t.status }

/-! ### The station's claims -/

/-- The feed claim is that of the first row of its table that holds, with the draws of the strapped profile. -/
def Obligations.FeedClaimByFirstRow : Prop :=
  ∀ s : State,
    s.feedClaim =
      (if s.supply.mains = .present then (.standby, 0)
      else if s.conv.mode = .disabled ∨ s.conv.mode = .riserAbsent ∨ s.demand.window = []
          ∨ s.demand.window.sum / s.demand.window.length < 3000 then (.standby, 0)
      else if (s.term.mode = .off ∧ s.term.wakePending = false) ∨ s.term.mode = .fault then (.standby, 0)
      else if s.term.mode = .booting ∧ s.term.demand = .emergency then (.life, s.bootDraw)
      else if s.term.mode = .booting then (.wake, s.bootDraw)
      else if (s.term.mode = .hold ∨ s.term.mode = .off) ∧ s.term.wakePending then (.wake, s.bootDraw)
      else if s.term.mode = .active ∧ s.term.demand = .emergency then (.life, s.activeDraw)
      else if s.term.mode = .active ∧ s.term.demand = .session then (.call, s.activeDraw)
      else if s.test.carry ∧ s.term.mode = .hold then (.test, s.holdDraw)
      else if s.test.carry ∧ s.term.mode = .active then (.test, s.activeDraw)
      else if s.term.mode = .active then (.keep, s.activeDraw)
      else (.keep, s.holdDraw))
    ∧ (s.bootDraw, s.activeDraw, s.holdDraw)
        = ([(14, 8, 2), (18, 11, 3), (24, 15, 4), (34, 22, 6)][s.profile]?).getD (0, 0, 0)

/-- The requests of one snapshot sum to no more than G_max, the feed request stays as it was formed, and a charge claim is formed exactly in
an outage with a fit converter and riser at a band of GOOD (TOPUP, 10 or 15 feed units by chemistry) or LOW, RESERVE, CUTOFF (RECOVER, 30 or
40). The charge notice is the claim, else a withdrawal of the last charge class with request 0, else none, and none in SLOW tempo with mains
PRESENT. The budget estimate is B_rated in whole, three quarters, half, a quarter or nothing by the mean riser voltage at 46, 44, 42, 40 V,
and no estimate below 30.00 V or without a sample. -/
def Obligations.ClaimsWithinCeiling : Prop :=
  ∀ s : State,
    s.feedRequest = s.feedClaim.2
      ∧ s.feedRequest + ((s.chargeClaim.map Prod.snd).getD 0) ≤ s.ceiling
      ∧ (s.chargeClaim.isSome = true ↔ s.supply.mains = .absent ∧ s.canDraw = true
          ∧ (s.batt.band = .good ∨ s.batt.band = .low ∨ s.batt.band = .reserve ∨ s.batt.band = .cutoff))
      ∧ (∀ c, s.chargeClaim = some c →
          c.1 = (if s.batt.band = .good then .topup else .recover)
            ∧ c.2 = min (if s.chemistry = .leadAcid then (if s.batt.band = .good then 10 else 30)
                else if s.batt.band = .good then 15 else 40) (s.ceiling - s.feedRequest))
      ∧ s.chargeNotice = (if s.round.tempo = .slow ∧ s.supply.mains = .present then none
          else match s.chargeClaim with
            | some c => some c
            | none => s.demand.lastCharge.map fun c => (c, 0))
      ∧ s.budgetEstimate = (if s.demand.window = [] ∨ s.demand.window.sum / s.demand.window.length < 3000 then 4095
          else
            let v := s.demand.window.sum / s.demand.window.length
            s.rating * (if 4600 ≤ v then 100 else if 4400 ≤ v then 75 else if 4200 ≤ v then 50 else if 4000 ≤ v then 25 else 0) / 100)

/-! ### The line controller -/

/-- A station may offer its head frame exactly if its oscillator is STABLE, it is MEMBER, neither OFFLINE nor stuck, no extra wait stands, and
the frame is an opening frame, or a notice before t0 + 600 ms. The line phase becomes IDLE after 9 recessive bits in INTEGRATING or after the
gap: an extra wait owed starts to run, and the head frame, if it may be offered, is begun at once; the end of an extra wait offers it too. A
peer's edge in IDLE or GAP begins a frame: the bit position restarts at quantum 1 with nominal segments, the falling edge is now, an extra wait
ends, and the station joins as transmitter exactly if it has a frame it may offer. An edge in an error delimiter of which 3 recessive bits have
been sampled ends the delimiter and begins a frame in the same way, a head frame with two failures in QUIET being dropped first; with fewer
bits it begins none. Whatever waits for the delimiter's end, such an edge does what that end does and then what an edge in the GAP does. That
an owed wait runs 8 bit times from IDLE, and that an edge in the GAP ends one still owed, are the model's readings (log 11); that quantum 1
begins at cycle 0 with the edge or the own start bit is its choice (log 43). -/
def Obligations.IdleAndEdgeBeginFrames : Prop :=
  (∀ s : State, s.mayOffer = true ↔ s.supply.oscillator = .stable ∧ s.round.participation = .member ∧ s.line.confinement ≠ .offline
      ∧ s.line.stuck = false ∧ s.line.extraWait = .none
      ∧ ((∃ o q, s.line.queue = .opening o :: q) ∨ ((∃ n q, s.line.queue = .notice n :: q) ∧ s.clock < s.round.t0 + 600 * 3200)))
    ∧ (∀ s : State, s.supply.power = .running → s.supply.oscillator = .stable → (s.line.phase = .idle ∨ s.line.phase = .gap) →
      exec .startBitEdge s = .next (State.askSleep { s with line := { s.line with
        phase := .frame
        role := if s.mayOffer then .transmitter else .receiver
        driver := if s.mayOffer then .dominant else .recessive
        bitPos := some { cycle := 0, quantum := 1, segA := 10, segB := 5, resynced := false }
        seen := .dominant, gapBits := 0, frameStart := s.clock, rxBits := [], extraWait := .none } }))
    ∧ (∀ s : State, s.supply.power = .running → s.supply.oscillator = .stable → (s.line.integrated = true ∨ s.line.gapPassed = true) →
      let idle : State := { s with line := { s.line with
        phase := .idle
        extraWait := if s.line.extraWait = .owed then .until (s.clock + 8 * 160) else s.line.extraWait } }
      (idle.mayOffer = false → exec .lineIdle s = .next idle.askSleep)
        ∧ (idle.mayOffer = true → exec .lineIdle s = .next (State.askSleep { s with line := { idle.line with
            phase := .frame, role := .transmitter, driver := .dominant, bitPos := some {}, seen := .dominant, gapBits := 0
            frameStart := s.clock, rxBits := [] } })))
    ∧ (∀ s : State, s.supply.power = .running → s.supply.oscillator = .stable → s.line.phase = .error →
        (s.line.delimiterBits < 3 → exec .startBitEdge s = .next s.askSleep)
          ∧ (3 ≤ s.line.delimiterBits → ∀ (e : ErrorInHand) (u : State), s.line.error = some e →
              exec .errorDelimiterEnd { s with line := { s.line with error := some { e with progress := .delimiter 8 } } } = .next u →
              u.line.phase = .gap ∧ u.supply.oscillator = .stable ∧ exec .startBitEdge s = exec .startBitEdge u)
          ∧ (3 ≤ s.line.delimiterBits → s.closeDue = false → s.timerExpired = false →
              (s.line.failed < 2 → exec .startBitEdge s = .next (State.askSleep { s with line := { s.line with
                  phase := .frame
                  role := if s.mayOffer then .transmitter else .receiver
                  driver := if s.mayOffer then .dominant else .recessive
                  bitPos := some {}, seen := .dominant, gapBits := 0, frameStart := s.clock, rxBits := [], extraWait := .none
                  error := none } }))
                ∧ (2 ≤ s.line.failed → ∃ t : State, exec .startBitEdge s = .next t.askSleep ∧ t.line.phase = .frame
                    ∧ t.line.queue = s.line.queue.tail ∧ t.line.frameStart = s.clock ∧ t.line.error = none
                    ∧ (s.line.extraWait ≠ .none → t.line.role = .receiver ∧ t.line.driver = .recessive)
                    ∧ t.line.extraWait = .none ∧ t = { s with line := t.line })))
    ∧ ∀ (s : State) (e : Time), s.supply.power = .running → s.line.extraWait = .until e → e ≤ s.clock →
        let waited : State := { s with line := { s.line with extraWait := .none } }
        ((s.line.phase ≠ .idle ∨ waited.mayOffer = false) → exec .extraWaitExpiry s = .next waited.askSleep)
          ∧ (s.line.phase = .idle → waited.mayOffer = true → exec .extraWaitExpiry s = .next (State.askSleep { s with line := { waited.line with
              phase := .frame, role := .transmitter, driver := .dominant, bitPos := some {}, seen := .dominant, gapBits := 0
              frameStart := s.clock, rxBits := [] } }))

/-- What makes an error: at a transmitter a sampled bit other than the one sent, but for the acknowledge slot, and for the arbitration field, where
recessive sent and dominant sampled is a loss (that the other way round goes on is log 29); at a receiver a fifth equal bit in the stuffed
region, a dominant check delimiter, acknowledge delimiter or end-field bit, and, at the acknowledge delimiter (log 10), a nonzero class of an
opening frame or check bits that differ. An error taken: decoding stops and the phase is ERROR; a transmitter's count rises by 8, a receiver's
by 1, each staying at 255; the confinement state is read from the new counts and then the flag chosen, active exactly in ACTIVE outside LISTEN
with the line-stuck flag clear. A failed attempt of a transmitter that is then QUIET counts, within 2, and owes the extra wait; a return to
ACTIVE ends an extra wait, and entry into OFFLINE both. Loss of arbitration is no error: the transmitter becomes a receiver with its driver
recessive, and nothing else changes. -/
def Obligations.FrameErrorCountsAndFlags : Prop :=
  (∀ (l : LineState) (k : ErrorKind), l.errorSeen = some k ↔ l.phase = .frame
      ∧ ((l.role = .receiver ∧ (receive l.rxBits).fault = some k)
        ∨ (l.role = .transmitter ∧ k = .bit ∧ ∃ f q, l.queue = f :: q ∧ compareSent (sentBits f) l.rxBits = .error)))
    ∧ (∀ (ws : List SentBit) (bits : List Level) (w : SentBit) (b : Level), compareSent ws bits = .going → ws[bits.length]? = some w →
      compareSent ws (bits ++ [b]) =
        (if w.level = b ∨ w.tag = .ack ∨ (w.tag = .arbitration ∧ w.level = .dominant) then
          (if ws.length = bits.length + 1 then .complete else .going)
        else if w.tag = .arbitration then .lost else .error))
    ∧ (∀ (bits : List Level) (b : Level),
      let r := receive bits
      let r' := receive (bits ++ [b])
      let fixed : Option ErrorKind := if b = .dominant then some .form else none
      let region := regionLength r.content
      r.fault = none → r.done = false →
        (r.inRegion = true → r.tail = 0 ∧ (r'.fault = none ∨ r'.fault = some .stuff)
            ∧ (r'.fault = some .stuff ↔ ∃ before, bits ++ [b] = before ++ List.replicate 5 b))
          ∧ (r.inRegion = false → (r'.fault = none → r'.tail = r.tail + 1)
            ∧ (r.tail = 0 → r'.fault = fixed) ∧ (r.tail = 1 → r'.fault = none) ∧ (3 ≤ r.tail → r'.fault = fixed)
            ∧ (r.tail = 2 → r'.fault = (if b = .dominant then some .form
                else if region = 30 ∧ fieldValue ((r.content.drop 2).take 3) ≠ 0 then some .form
                else if r.content.drop (region - 10) ≠ checkBits ((r.content.take (region - 10)).drop 1) then some .check
                else none))))
    ∧ (∀ (s : State) (k : ErrorKind), s.supply.power = .running → s.line.errorSeen = some k →
    ∃ t : State, exec .frameError s = .next t.askSleep ∧ t.line.phase = .error ∧ t.line.driver = .recessive ∧ t.line.rxBits = []
      ∧ t.line.txErrors = (if s.line.role = .transmitter then min 255 (s.line.txErrors + 8) else s.line.txErrors)
      ∧ t.line.rxErrors = (if s.line.role = .receiver then min 255 (s.line.rxErrors + 1) else s.line.rxErrors)
      ∧ t.line.confinement = (if s.line.confinement = .offline then .offline else confinementOf t.line.txErrors t.line.rxErrors)
      ∧ (∃ e, t.line.error = some e ∧ e.kind = k ∧ e.role = s.line.role ∧ e.progress = .flag 0 .recessive
          ∧ (e.flag = .active ↔ t.line.confinement = .active ∧ s.round.participation ≠ .listen ∧ s.line.stuck = false))
      ∧ (t.line.confinement = .quiet →
          t.line.failed = (if s.line.role = .transmitter then min 2 (s.line.failed + 1) else s.line.failed)
            ∧ t.line.extraWait = (if s.line.role = .transmitter then .owed else s.line.extraWait))
      ∧ (t.line.confinement = .active → t.line.failed = s.line.failed
          ∧ t.line.extraWait = (if s.line.confinement = .quiet then .none else s.line.extraWait))
      ∧ (s.line.confinement ≠ .offline → t.line.confinement = .offline → t.line.failed = 0 ∧ t.line.extraWait = .none)
      ∧ (t.line.confinement ≠ .offline → t.line.queue = s.line.queue)
      ∧ (s.line.confinement ≠ .offline → t.line.confinement = .offline → t.line.queue = [] ∧ t.test.context = none)
      ∧ t = { s with line := t.line, batt := t.batt, term := t.term, test := t.test })
    ∧ ∀ s : State, s.supply.power = .running → s.line.arbitrationLost = true →
        exec .loseArbitration s = .next (State.askSleep { s with line := { s.line with role := .receiver, driver := .recessive } })

/-- The eighth recessive bit of the error delimiter ends it: phase GAP, role NONE, a head frame with two failures in QUIET dropped and counted
unsent if it is a notice, the next at the head with a count of 0. Then what waited for this end takes place. A close event that is due occurs:
notices left are removed and counted unsent, the view is that of the records, the computation starts. A round timer that has expired is re-
armed: within 200 ms of the last valid completion the missed-round mark is set; else a station neither OFFLINE nor stuck places an opening
frame at the head unless one of its own is still queued. With neither waiting nothing else changes. That the drop comes before the expiry (log
48), and the close event before it too (log 56), is the model's choice. -/
def Obligations.DelimiterEndOpensGap : Prop :=
  (∀ s : State,
      (s.closeDue = true ↔ s.round.closePending = true ∧ s.round.missed = false ∧ s.round.participation ≠ .listen
        ∧ s.round.t0 + 600 * 3200 ≤ s.clock)
      ∧ (s.timerExpired = true ↔ s.round.participation = .member ∧ ∃ e, s.round.timer = some e ∧ e ≤ s.clock))
    ∧ ∀ s : State, s.supply.power = .running → s.line.phase = .error → 8 ≤ s.line.delimiterBits →
      let opened : LineState := { s.line with
        phase := .gap, role := .none, driver := .recessive, error := none, gapBits := 0, rxBits := []
        queue := if 2 ≤ s.line.failed then s.line.queue.tail else s.line.queue
        failed := if 2 ≤ s.line.failed then 0 else s.line.failed
        unsent := if 2 ≤ s.line.failed then min 255 (s.line.unsent + ((s.line.queue.take 1).filter Frame.isNotice).length)
          else s.line.unsent }
      let left := if s.closeDue then opened.queue.filter (fun f => !Frame.isNotice f) else opened.queue
      let recent : Bool := s.round.lastValid.any fun v => decide (s.clock ≤ v + 200 * 3200)
      let places : Bool := s.timerExpired && !recent && decide (s.line.confinement ≠ .offline) && !s.line.stuck && left.all Frame.isNotice
      ∃ t : State, exec .errorDelimiterEnd s = .next t.askSleep
        ∧ (let o : Opening :=
            { addr := s.address
              tempo := if s.supply.mains = .absent ∨ t.round.viewOutage = true then .fast else .slow
              round := if s.round.adopted then BitVec.ofNat 8 ((s.round.number.toNat + 1) % 256) else 0 }
          t.line = { opened with
            queue := if places then .opening o :: left else left
            failed := if places = false ∧ left.head? = opened.queue.head? then opened.failed else 0
            unsent := if s.closeDue then min 255 (opened.unsent + (opened.queue.filter Frame.isNotice).length) else opened.unsent })
        ∧ t.round = { s.round with
            closePending := s.round.closePending && !s.closeDue
            viewOutage := t.round.viewOutage
            missed := s.round.missed || (s.timerExpired && recent)
            timer := if s.timerExpired then some (s.clock + period s.round.tempo + 2 * (s.address.val + 1) * 3200) else s.round.timer }
        ∧ (s.closeDue = false → t = { s with round := { t.round with viewOutage := s.round.viewOutage }, line := t.line })
        ∧ (s.closeDue = true → t.peers.view = assembleView s.peers.records ∧ t.share.inFlight = true ∧ t.demand.claimsOpen = false
            ∧ t = { s with round := t.round, peers := t.peers, share := t.share, demand := t.demand, line := t.line, conv := t.conv,
                           batt := t.batt })

/-- The guards: a fault holds the driver dominant cycle by cycle, which is counted, as long as OFFLINE, LISTEN and the line-stuck flag do not
keep it recessive (an input of the model's, log 46); more than 24 bit times of dominant drive force the driver recessive, the transmit count to
at least 160 and the station OFFLINE; 400 dominant samples set the line-stuck flag and clear the queue; 12 recessive ones clear the flag and
the line is integrated again; 64 recovery runs return an OFFLINE station to ACTIVE with both counts 0; its line phase is as it was, but for the
frame it then begins on an IDLE line if its head frame may be offered, which is the model's reading (log 12), at cycle 0 of that moment, its
choice (log 43). That the clearing of a stuck line leaves a round timer expiry that waited for the frame's end as it stands is its choice too
(log 49). -/
def Obligations.LineGuards : Prop :=
  (∀ (s : State) (b : BitPos), s.pending = [] → s.supply.oscillator = .stable → s.line.bitPos = some b → b.cycle < 9 →
      s.pins.driverFault.head? = some true → s.mayDrive = true →
      ∃ t : State, step s = .next t ∧ t.line = { s.line with
        driver := .dominant, driveTime := min (25 * 160) (s.line.driveTime + 1), bitPos := some { b with cycle := b.cycle + 1 } })
    ∧ (∀ s : State, s.supply.power = .running → s.line.driver = .dominant → 24 * 160 < s.line.driveTime →
      ∃ t : State, exec .dominantTimeout s = .next t.askSleep ∧ t.line.driver = .recessive ∧ t.line.driveTime = 0
        ∧ t.line.txErrors = max s.line.txErrors 160
        ∧ t.line.rxErrors = s.line.rxErrors ∧ t.line.confinement = .offline
        ∧ (s.line.confinement ≠ .offline → t.line.queue = [] ∧ t.test.context = none)
        ∧ t = { s with line := t.line, batt := t.batt, term := t.term, test := t.test })
    ∧ (∀ s : State, s.supply.power = .running → 400 ≤ s.line.dominantRun → s.line.stuck = false →
        ∃ t : State, exec .lineStuck s = .next t.askSleep ∧ t.line.stuck = true ∧ t.line.driver = .recessive ∧ t.line.driveTime = 0
          ∧ t.line.queue = []
          ∧ t.line.unsent = min 255 (s.line.unsent + (s.line.queue.filter Frame.isNotice).length)
          ∧ t.line.txErrors = s.line.txErrors ∧ t.line.rxErrors = s.line.rxErrors ∧ t.line.confinement = s.line.confinement
          ∧ (s.closeDue = false → t = { s with line := t.line }) ∧ (s.closeDue = true → t.round.closePending = false
            ∧ t = { s with round := t.round, peers := t.peers, share := t.share, demand := t.demand, line := t.line,
                           conv := t.conv, batt := t.batt }))
    ∧ (∀ s : State, s.supply.power = .running → s.line.stuck = true → 12 ≤ s.line.clearingRun →
        ∃ t : State, exec .lineStuckClear s = .next t.askSleep ∧ t.line.stuck = false ∧ t.line.phase = .integrating ∧ t.line.recessiveRun = 0
          ∧ t.line.recoveryBits = 0 ∧ t.line.recoveryRuns = s.line.recoveryRuns ∧ t.line.confinement = s.line.confinement
          ∧ t = { s with line := t.line })
    ∧ ∀ s : State, s.supply.power = .running → s.line.confinement = .offline → 64 ≤ s.line.recoveryRuns →
        let back : State := { s with line := { s.line with
          confinement := .active, txErrors := 0, rxErrors := 0, recoveryRuns := 0, recoveryBits := 0 } }
        ∃ t : State, exec .returnFromOffline s = .next t.askSleep
          ∧ ((s.line.phase ≠ .idle ∨ back.mayOffer = false) → t.line = back.line)
          ∧ (s.line.phase = .idle → back.mayOffer = true → t.line = { back.line with
              phase := .frame, role := .transmitter, driver := .dominant, bitPos := some {}, seen := .dominant, gapBits := 0
              frameStart := s.clock, rxBits := [] })
          ∧ t = { s with line := t.line, test := t.test }

/-! ### The feed converter -/

/-- A measurement event with no test in flight. Each sample saturates at the ends of its range; each window takes its sample, the evaluation
count rises, the next event is 1 ms on; a RUN converter with a fit riser moves its on-time command by at most one cycle by the riser current
against the setpoint sum at 20 mA per feed unit, and ramps each setpoint by 4 towards its target. By the riser-absent mean, below 30.00 V
takes RUN, and IDLE in an outage, to RISER-ABSENT, and 30.00 V or above takes IDLE in an outage, and RISER-ABSENT, to RUN with setpoints and
command 0. A closed charge switch that stays closed moves its conduction by one level within 0 to 16 by the charge current against the limit;
one that opens or closes has conduction 0. The order of regulation and ramp is the model's (log 14); so is that the event reads the
riser-high comparator again, and that a riser above 60.00 V trips it at the entry into RUN (log 15). -/
def Obligations.MeasurementEventFeedsBlocks : Prop :=
  ∀ (m : Samples) (s : State) (tb : TimeBase), s.supply.power = .running → s.conv.timeBase = some tb →
    tb.nextMeasure ≤ s.clock → s.test.context = none →
    let volts := min m.riserVoltage 6553
    let current := min m.riserCurrent 4095
    let charging := - max (-16384) (min m.battCurrent 16383)
    let w := pushWindow 16 s.conv.window volts
    let sum := s.conv.feedSetpoint + s.conv.chargeSetpoint
    let feed := min s.feedTarget (s.conv.feedSetpoint + 4)
    let charge := min s.chargeTarget (s.conv.chargeSetpoint + 4)
    ∃ t : State, exec (.measurementEvent m) s = .next t.askSleep
      ∧ t.batt.window = pushWindow 256 s.batt.window (min m.battVoltage 32767)
      ∧ t.batt.evalCount = min 256 (s.batt.evalCount + 1)
      ∧ t.demand = { s.demand with window := pushWindow 64 s.demand.window volts }
      ∧ t.conv.window = w ∧ t.conv.timeBase = some { tb with nextMeasure := tb.nextMeasure + 3200 } ∧ t.conv.railLimited = false
      ∧ (s.conv.mode = .run → riserFit w = true →
          t.conv.mode = .run ∧ t.conv.feedSetpoint = feed ∧ t.conv.chargeSetpoint = charge
            ∧ t.conv.command = (if feed + charge = 0 ∨ sum = 0 then 0
                else if 4 * sum < current then s.conv.command - 1
                else if current < 4 * sum ∧ s.conv.railLimited = false then min 64 (s.conv.command + 1)
                else s.conv.command))
      ∧ ((s.conv.mode = .run ∨ (s.conv.mode = .idle ∧ s.supply.mains = .absent)) → riserFit w = false →
          t.conv.mode = .riserAbsent ∧ t.conv.feedSetpoint = 0 ∧ t.conv.chargeSetpoint = 0 ∧ t.conv.gateHigh = false
            ∧ t.conv.gateLow = false)
      ∧ ((s.conv.mode = .riserAbsent ∨ (s.conv.mode = .idle ∧ s.supply.mains = .absent)) → riserFit w = true →
          t.conv.mode = (if 6000 < volts then .held else .run) ∧ t.conv.feedSetpoint = 0 ∧ t.conv.chargeSetpoint = 0
            ∧ t.conv.command = 0)
      ∧ ((s.conv.mode = .held ∨ s.conv.mode = .disabled ∨ (s.conv.mode = .idle ∧ s.supply.mains = .present)
            ∨ (s.conv.mode = .riserAbsent ∧ riserFit w = false)) →
          t.conv.mode = s.conv.mode)
      ∧ (s.batt.charge = .closed → t.batt.charge = .closed → t.batt.conduction =
          (if (s.batt.chargeLimit : Int) < charging then s.batt.conduction - 1
          else if charging < (s.batt.chargeLimit : Int) then min 16 (s.batt.conduction + 1)
          else s.batt.conduction))
      ∧ (s.batt.charge ≠ t.batt.charge → t.batt.conduction = 0)
      ∧ t = { s with
          pins := { s.pins with riserHigh := decide (6000 < volts) }
          demand := t.demand, conv := t.conv, batt := t.batt, test := { s.test with carry := t.test.carry } }

/-- A measurement event with a test in flight at a RUN converter with a fit riser. Above 100 mA in SETTLE the test is aborted NOT-CARRIED; at
rest its sums grow; the first 20 events of LOAD are blanked; a counted LOAD sample below the CUTOFF edge ends the test FAIL without a value,
and any other adds to the load sums; RELAX keeps no sample; a phase that is complete takes none (log 18). The other recipients take their
samples as without a test: the windows, the evaluation count, the on-time command, the ramping setpoints and the next event; the end of a test
whose band hold was set empties the battery window and its count. A test that goes on leaves the terminal alone; where it ends, the test unit
has the result at the head of its list. At NOT-CARRIED this holds even where the end lets a wake through, since that record is written after
the blocks are told; at FAIL the record of such a wake may stand above it (the model's reading, log 40). That regulation and the charge step
come before the ramp is the model's choice (log 14); so is that the event reads the riser-high comparator again (log 15). -/
def Obligations.PulseTestTakesSamples : Prop :=
  ∀ (m : Samples) (s : State) (tb : TimeBase) (c : TestContext), s.supply.power = .running → s.conv.timeBase = some tb →
    tb.nextMeasure ≤ s.clock → s.test.context = some c → s.conv.mode = .run →
    riserFit (pushWindow 16 s.conv.window (min m.riserVoltage 6553)) = true →
    let v := min m.battVoltage 32767
    let i := max (-16384) (min m.battCurrent 16383)
    let edge := if s.chemistry = .leadAcid then 11000 else 11600
    let volts := min m.riserVoltage 6553
    let current := min m.riserCurrent 4095
    let sum := s.conv.feedSetpoint + s.conv.chargeSetpoint
    let feed := min s.feedTarget (s.conv.feedSetpoint + 4)
    let charge := min s.chargeTarget (s.conv.chargeSetpoint + 4)
    let goesOn (c' : TestContext) (t : State) : Prop := t = { s with
      pins := { s.pins with riserHigh := t.pins.riserHigh }
      demand := { s.demand with window := t.demand.window }
      conv := t.conv
      batt := { s.batt with
        window := pushWindow 256 s.batt.window v
        evalCount := min 256 (s.batt.evalCount + 1)
        charge := t.batt.charge
        conduction := t.batt.conduction
        chargeLimit := t.batt.chargeLimit }
      test := { s.test with context := some c' } }
    let ends (verdict : Verdict) (next : Option Time) (t : State) : Prop :=
      t.batt.window = (if s.batt.hold then [] else pushWindow 256 s.batt.window v)
        ∧ t.batt.evalCount = (if s.batt.hold then 0 else min 256 (s.batt.evalCount + 1))
        ∧ t.test.context = none ∧ t.test.gate = false ∧ t.batt.hold = false ∧ t.test.carry = false ∧ t.test.carryCount = 0
        ∧ t.test.schedule = next ∧ t.test.due = false
        ∧ ((s.term.wakePending = false ∨ verdict = .notCarried) → t.test.results.head? = some
            { kind := .pulse, verdict := verdict, value := none, round := s.round.number, band := c.startBand })
        ∧ t = { s with
            pins := { s.pins with riserHigh := t.pins.riserHigh }
            demand := { s.demand with window := t.demand.window }
            conv := t.conv, batt := t.batt, term := t.term, test := t.test }
    ∃ t : State, exec (.measurementEvent m) s = .next t.askSleep
      ∧ t.conv = { s.conv with
          window := pushWindow 16 s.conv.window volts
          timeBase := some { tb with nextMeasure := tb.nextMeasure + 3200 }
          railLimited := false
          feedSetpoint := feed
          chargeSetpoint := charge
          command := if feed + charge = 0 ∨ sum = 0 then 0
            else if 4 * sum < current then s.conv.command - 1
            else if current < 4 * sum ∧ s.conv.railLimited = false then min 64 (s.conv.command + 1)
            else s.conv.command }
      ∧ t.pins.riserHigh = decide (6000 < volts)
      ∧ t.demand.window = pushWindow 64 s.demand.window volts
      ∧ t.batt.band = s.batt.band
      ∧ (c.phase = .settle → c.events < 64 → 100 < i.natAbs → (s.batt.hold = false) →
          ends .notCarried (some (s.clock + 600 * 3200000)) t)
      ∧ (c.phase = .settle → c.events < 64 → i.natAbs ≤ 100 → goesOn
          { c with events := c.events + 1, settleVolt := c.settleVolt + v, settleCurr := c.settleCurr + i } t)
      ∧ (c.phase = .load → c.events < 20 → goesOn { c with events := c.events + 1 } t)
      ∧ (c.phase = .load → 20 ≤ c.events → c.events < 200 → edge ≤ v → goesOn
          { c with events := c.events + 1, loadVolt := c.loadVolt + v, loadCurr := c.loadCurr + i } t)
      ∧ (c.phase = .load → 20 ≤ c.events → c.events < 200 → v < edge →
          ends .fail (s.testInterval.map (fun d => c.startTime + d)) t)
      ∧ (c.phase = .relax → c.events < 500 → goesOn { c with events := c.events + 1 } t)
      ∧ ((c.phase = .settle ∧ 64 ≤ c.events) ∨ (c.phase = .load ∧ 200 ≤ c.events) ∨ (c.phase = .relax ∧ 500 ≤ c.events) →
          goesOn c t)

/-- A switching period begins 64 cycles after the one before, with the high-side gate on exactly in RUN with the riser-low gate open and an
on-time command above 0; the peak run is set to 0 if the period just ended had no on-time or one that no event ended. The riser-low gate
shuts with the gates off at once, an on-time in progress ended and its peak run 0, and opens with the gates as they are; neither moves
converter state or setpoints. Ending a running on-time with the gate's shutting is the model's (log 16). -/
def Obligations.SwitchingPeriodAndRiserLowGate : Prop :=
  (∀ (s : State) (tb : TimeBase), s.supply.power = .running → s.conv.timeBase = some tb → tb.nextPeriod ≤ s.clock →
    ∃ t : State, exec .switchingPeriodStart s = .next t.askSleep
      ∧ (t.conv.gateHigh = true ↔ s.conv.mode = .run ∧ s.conv.riserLowShut = false ∧ 0 < s.conv.command)
      ∧ (t.conv.gateHigh = true → t.conv.gateLow = false ∧ t.conv.onTime = .running s.clock)
      ∧ (t.conv.gateHigh = false → t.conv.onTime = .none)
      ∧ t.conv.timeBase = some { tb with nextPeriod := tb.nextPeriod + 64 }
      ∧ t.conv.peakRun = (if s.conv.onTime = .ended then s.conv.peakRun else 0)
      ∧ t = { s with conv := { s.conv with
          timeBase := t.conv.timeBase, peakRun := t.conv.peakRun, onTime := t.conv.onTime, gateHigh := t.conv.gateHigh
          gateLow := t.conv.gateLow } })
    ∧ (∀ s : State, s.supply.power = .running → s.conv.riserLowShut = false →
      ∃ t : State, exec .riserLowGateShut s = .next t.askSleep ∧ t.conv.riserLowShut = true ∧ t.conv.gateHigh = false ∧ t.conv.gateLow = false
        ∧ (∀ since, s.conv.onTime = .running since → t.conv.onTime = .ended ∧ t.conv.peakRun = 0)
        ∧ t = { s with conv := { s.conv with
            riserLowShut := true, gateHigh := false, gateLow := false, onTime := t.conv.onTime, peakRun := t.conv.peakRun } })
    ∧ ∀ s : State, s.supply.power = .running →
        exec .riserLowGateOpen s = .next (State.askSleep { s with conv := { s.conv with riserLowShut := false } })

/-- What ends an on-time of a RUN converter: the command or 18 µs, the rail limit (which bars the command from rising) and the rail-high
comparator set the peak run to 0; the peak limit, after 400 ns, adds 1 to it within 32; each turns the high-side gate off and the low-side
gate on. After a rail-high end the next period begins normally. -/
def Obligations.OnTimeEnds : Prop :=
  ∀ (s : State) (since : Time), s.supply.power = .running → s.conv.mode = .run → s.conv.onTime = .running since →
    let ended (peak : Nat) : ConverterState :=
      { s.conv with onTime := .ended, gateHigh := false, gateLow := true, peakRun := peak }
    ((s.conv.command ≤ s.clock - since ∨ 18000 * 16 ≤ 5000 * (s.clock - since)) →
        exec .onTimeEnd s = .next (State.askSleep { s with conv := ended 0 }))
      ∧ (400 * 10 ≤ 3125 * (s.clock - since) → exec .peakLimit s = .next (State.askSleep { s with conv := ended (min 32 (s.conv.peakRun + 1)) }))
      ∧ exec .railLimit s = .next (State.askSleep { s with conv := { ended 0 with railLimited := true } })
      ∧ exec .railHigh s = .next (State.askSleep { s with conv := ended 0 })

/-- A peak run of 32 in RUN makes a persist latch: peak run 0, latch mark set, the consecutive-latch count up by 1, HELD while it is below 3
and DISABLED at 3. A riser above 60.00 V in RUN makes the converter HELD with mark and count as they were, and in any other state latches
nothing. Either way a stopped converter has its gates off and its setpoints 0, and a test in flight is aborted. That the comparator's level is
kept set is the model's reading (log 15). -/
def Obligations.LatchesStopConverter : Prop :=
  (∀ s : State, s.supply.power = .running → s.conv.mode = .run → 32 ≤ s.conv.peakRun → s.conv.latchCount < 3 →
      ∃ t : State, exec .persistLatch s = .next t.askSleep ∧ t.conv.peakRun = 0 ∧ t.conv.latchMark = true
        ∧ t.conv.latchCount = s.conv.latchCount + 1 ∧ t.conv.mode = (if s.conv.latchCount + 1 < 3 then .held else .disabled)
        ∧ t.conv.gateHigh = false ∧ t.conv.gateLow = false ∧ t.conv.feedSetpoint = 0 ∧ t.conv.chargeSetpoint = 0
        ∧ t.test.context = none ∧ t = { s with conv := t.conv, batt := t.batt, term := t.term, test := t.test })
    ∧ (∀ s : State, s.supply.power = .running → s.conv.mode = .run →
        ∃ t : State, exec .riserHighLatch s = .next t.askSleep ∧ t.conv.mode = .held ∧ t.conv.latchMark = s.conv.latchMark
          ∧ t.conv.latchCount = s.conv.latchCount ∧ t.conv.gateHigh = false ∧ t.conv.gateLow = false
          ∧ t.conv.feedSetpoint = 0 ∧ t.conv.chargeSetpoint = 0 ∧ t.test.context = none
          ∧ t = { s with pins := { s.pins with riserHigh := true }, conv := t.conv, batt := t.batt, term := t.term, test := t.test })
    ∧ ∀ s : State, s.supply.power = .running → s.conv.mode ≠ .run →
        exec .riserHighLatch s = .next (State.askSleep { s with pins := { s.pins with riserHigh := true } })

/-- The interval timer's expiry is a boundary: a clear latch mark sets the count to 0, the mark is cleared, a HELD converter goes to RUN or, by
the riser-absent mean, to RISER-ABSENT, with setpoints 0 and its gates off, or is HELD again at once by a riser above 60.00 V, and the timer
restarts for 2,000 ms; in any other state the converter keeps its state and setpoints. That a riser still high trips again at the entry into
RUN is the model's (log 15); so are its choices that both gates stay off at that entry (log 16) and that the timer runs on, and its expiry is
taken, while the part sleeps or its oscillator starts (log 51). -/
def Obligations.IntervalBoundaryReleasesHeld : Prop :=
  ∀ s : State, s.supply.power = .running → s.conv.intervalTimer ≤ s.clock →
    ∃ t : State, exec .intervalTimerExpiry s = .next t.askSleep ∧ t.conv.latchMark = false
      ∧ t.conv.latchCount = (if s.conv.latchMark then s.conv.latchCount else 0)
      ∧ t.conv.intervalTimer = s.clock + 2000 * 3200
      ∧ (s.conv.mode = .held → ConverterSafe s → t.conv.feedSetpoint = 0 ∧ t.conv.chargeSetpoint = 0 ∧ t.conv.gateHigh = false
          ∧ t.conv.gateLow = false)
      ∧ (s.conv.mode = .held → t.conv.mode =
          (if riserFit s.conv.window then (if s.pins.riserHigh then .held else .run) else .riserAbsent))
      ∧ (s.conv.mode ≠ .held → t.conv = { s.conv with
          latchMark := t.conv.latchMark, latchCount := t.conv.latchCount, intervalTimer := t.conv.intervalTimer })
      ∧ t = { s with conv := t.conv, batt := t.batt, term := t.term, test := t.test }

/-! ### The battery monitor -/

/-- The edges of the four bands of each chemistry, and the new band by the band in force and the mean: down as far as the mean takes it, up
by one band and only at the rising edge of the band one above, and from UNRATED straight to the target. -/
def Obligations.BandFallsFastRisesSlowly : Prop :=
  ([Band.full, .good, .low, .reserve].map (fallingEdge .leadAcid) = [13000, 12300, 11900, 11000]
      ∧ [Band.full, .good, .low, .reserve].map (fallingEdge .lithium) = [13300, 13000, 12800, 11600]
      ∧ ∀ (ch : Chemistry) (b : Band), risingEdge ch b = fallingEdge ch b + 100)
    ∧ ∀ (ch : Chemistry) (b : Band) (v : Nat),
    (∀ e, e ∈ [Band.full, .good, .low, .reserve] → (bandRank e ≤ bandRank (targetBand ch v) ↔ fallingEdge ch e ≤ v))
      ∧ targetBand ch v ≠ .unrated
      ∧ newBand ch b v =
          (if b = .unrated then targetBand ch v
          else if bandRank (targetBand ch v) < bandRank b then targetBand ch v
          else if bandRank b < bandRank (targetBand ch v) ∧ fallingEdge ch (bandAbove b) + 100 ≤ v then bandAbove b
          else b)

/-- While the part sleeps no evaluation is made. Awake, an evaluation that falls due sets the count to 0. With the band hold set, or on an
emptied window, it changes nothing else. Otherwise the band becomes that of the mean; CUTOFF opens the discharge switch and leaves no test in
flight, and the rise from CUTOFF closes it. A terminal that acts, without a test in flight, answers a change of band. In an outage at CUTOFF
one in HOLD, BOOTING or ACTIVE whose draw the feed grant does not cover goes OFF (CUTOFF), its timers stopped, retry count 0 and wake check
ended without a record, its pending wake kept; at RESERVE one ACTIVE at demand IDLE or WANTED below its draw goes to HOLD; at the rise from
CUTOFF one OFF (CUTOFF) goes to HOLD, keeping a pending wake that may not be made. A pending wake in HOLD or OFF is made if its gating holds at
the new band, as at the rise to LOW: BOOTING, as a wake check exactly from HOLD. Otherwise, with no wake pending, the terminal stays as it is.
-/
def Obligations.BandEvaluationSetsBand : Prop :=
  ∀ s : State, s.supply.power = .running → 256 ≤ s.batt.evalCount →
    (s.supply.asleep = true → exec .bandEvaluation s = .next s.askSleep)
      ∧ (s.supply.asleep = false → (s.batt.hold = true ∨ s.batt.window = []) →
          exec .bandEvaluation s = .next (State.askSleep { s with batt := { s.batt with evalCount := 0 } }))
      ∧ (s.supply.asleep = false → s.batt.hold = false → s.batt.window ≠ [] → TestSafe s → DischargeSafe s →
          ∃ t : State, exec .bandEvaluation s = .next t.askSleep ∧ t.batt.evalCount = 0 ∧ t.batt.window = s.batt.window
            ∧ t.batt.band = newBand s.chemistry s.batt.band (s.batt.window.sum / s.batt.window.length)
            ∧ (t.batt.discharge = .opened ↔ t.batt.band = .cutoff)
            ∧ (t.batt.band = .cutoff → t.test.context = none)
            ∧ (s.batt.band ≠ .unrated → s.test.context = none → t.batt.band ≠ s.batt.band →
                let grant := s.share.feedGrant
                let cutoff : Prop := s.supply.mains = .absent ∧ t.batt.band = .cutoff ∧ ((s.term.mode = .hold ∧ grant < s.holdDraw)
                  ∨ (s.term.mode = .booting ∧ grant < s.bootDraw) ∨ (s.term.mode = .active ∧ grant < s.activeDraw))
                let forced : Prop := s.supply.mains = .absent ∧ t.batt.band = .reserve ∧ s.term.mode = .active
                  ∧ (s.term.demand = .idle ∨ s.term.demand = .wanted) ∧ grant < s.activeDraw
                let rises : Prop := s.batt.band = .cutoff ∧ t.batt.band = .reserve ∧ s.term.mode = .off ∧ s.term.offReason = .cutoff
                (cutoff → t.term = { s.term with
                      mode := .off, offReason := .cutoff, bootTimer := none, idleTimer := none, retryCount := 0, wakeMark := false }
                    ∧ t.test.results = s.test.results ∧ (s.term.wakeMark = true → t.test.wakeCheck = none))
                  ∧ ((forced ∧ s.term.wakePending = false)
                      ∨ (rises ∧ (s.term.wakePending = false
                        ∨ (s.supply.mains = .absent ∧ s.term.demand ≠ .emergency ∧ grant < s.bootDraw))) →
                    t.term = { s.term with mode := .hold, idleTimer := none, bootTimer := none } ∧ t.holdLine = true)
                  ∧ (s.term.wakePending = true → (s.term.mode = .hold ∨ s.term.mode = .off) → s.pins.ready = false →
                      (s.supply.mains = .present ∨ bandRank .low ≤ bandRank t.batt.band
                        ∨ (t.batt.band = .reserve ∧ (s.term.demand = .emergency ∨ s.bootDraw ≤ grant))
                        ∨ (t.batt.band = .cutoff ∧ s.bootDraw ≤ grant)) →
                      t.term = { s.term with
                          mode := .booting, bootTimer := some s.clock, idleTimer := none, retryWait := none, wakePending := false
                          wakeMark := t.term.wakeMark }
                        ∧ (t.term.wakeMark = true ↔ s.term.mode = .hold ∨ rises)
                        ∧ t.test.wakeCheck = (if t.term.wakeMark then some t.batt.band else s.test.wakeCheck))
                  ∧ (¬ cutoff → ¬ forced → ¬ rises → s.term.wakePending = false → t.term = s.term))
            ∧ (t.batt.band = s.batt.band → t.term = s.term ∧ t.test = s.test)
            ∧ t = { s with supply := t.supply, batt := t.batt, term := t.term, test := t.test, status := t.status })

/-- The first band evaluation after a start has the terminal leave OFF (START) and asks for a status frame: BOOTING with mains PRESENT; in
an outage HOLD, with a wake requested at a demand level other than IDLE (made at once above RESERVE, and at RESERVE on EMERGENCY or a feed grant
of the boot draw, and pending there otherwise), or OFF (CUTOFF) at band CUTOFF. A terminal in FAULT stays. -/
def Obligations.FirstEvaluationLeavesStart : Prop :=
  ∀ s : State, s.supply.power = .running → 256 ≤ s.batt.evalCount → s.batt.hold = false → s.batt.window ≠ [] →
    s.supply.asleep = false → s.batt.band = .unrated → s.test.context = none → s.pins.ready = false →
    ∃ t : State, exec .bandEvaluation s = .next t.askSleep ∧ t.batt.band ≠ .unrated
      ∧ (t.status.frame.isSome = true ∨ t.status.pending = true)
      ∧ (s.term.mode = .off → s.term.offReason = .start →
          (s.supply.mains = .present → t.term.mode = .booting ∧ t.term.retryCount = 0 ∧ t.term.bootTimer = some s.clock)
            ∧ (s.supply.mains = .absent → t.batt.band = .cutoff → t.term.mode = .off ∧ t.term.offReason = .cutoff)
            ∧ (s.supply.mains = .absent → t.batt.band ≠ .cutoff → s.term.demand = .idle → t.term.mode = .hold)
            ∧ (s.supply.mains = .absent → bandRank t.batt.band ≥ bandRank .low → s.term.demand ≠ .idle → t.term.mode = .booting)
            ∧ (s.supply.mains = .absent → t.batt.band = .reserve → s.term.demand ≠ .idle →
                ((s.term.demand = .emergency ∨ s.bootDraw ≤ s.share.feedGrant) → t.term.mode = .booting)
                  ∧ (s.term.demand ≠ .emergency → s.share.feedGrant < s.bootDraw →
                      t.term.mode = .hold ∧ t.term.wakePending = true)))
      ∧ (s.term.mode = .fault → t.term = s.term)
      ∧ t = { s with supply := t.supply, batt := t.batt, term := t.term, test := t.test, status := t.status }

/-! ### The test unit -/

/-- The due flag is set at the next due time, and the carry request rises with it exactly if every condition of it holds. The ends of the
phases: at the 64th SETTLE event the means are formed, the gate is on, the band hold set, LOAD entered; at the 200th LOAD event the means
over 180 samples are formed, the gate is off, RELAX entered with the hold still set; each mean rounded down. -/
def Obligations.TestDueAndPhaseEnds : Prop :=
  (∀ (s : State) (d : Time), s.supply.power = .running → s.test.schedule = some d → d ≤ s.clock →
    exec .testDue s = .next (State.askSleep { s with test := { s.test with
      due := true
      carry := s.test.carry || decide (s.supply.mains = .absent
        ∧ (s.term.mode = .hold ∨ (s.term.mode = .active ∧ s.term.demand = .idle)) ∧ (s.batt.band = .full ∨ s.batt.band = .good)
        ∧ s.test.context = none ∧ s.test.inHand = none ∧ (s.conv.mode = .idle ∨ s.conv.mode = .run)
        ∧ s.round.participation = .member ∧ s.round.referenced = true ∧ s.line.confinement ≠ .offline) } }))
    ∧ ∀ (s : State) (c : TestContext), s.supply.power = .running → s.test.context = some c →
    (c.phase = .settle → c.events = 64 →
        exec .settleEnd s = .next (State.askSleep { s with
          batt := { s.batt with hold := true }
          test := { s.test with
            gate := true
            context := some { c with
              phase := .load, events := 0, vRest := ((c.settleVolt / 64 : Nat) : Int), iRest := Int.fdiv c.settleCurr 64 } } }))
      ∧ (c.phase = .load → c.events = 200 →
          exec .loadEnd s = .next (State.askSleep { s with test := { s.test with
            gate := false
            context := some { c with
              phase := .relax, events := 0, vLoad := ((c.loadVolt / 180 : Nat) : Int), iLoad := Int.fdiv c.loadCurr 180 } } }))

/-- DONE: the gate is off, the hold released with the window emptied, no test in flight, no carry request; ΔI within 500 to 16,383 mA leaves a
result in hand and a request for the reciprocal stage, any other writes BAD- LOAD at the head of the result list and the next due time. Without
a wake pending that the end lets through, a test with a result in hand writes no record yet. A wake pending in HOLD or OFF is made at the end
if its gating now holds, as a wake check exactly from HOLD, and stays pending otherwise. That the record comes after the blocks are told is the
order of the rule's text (log 40). -/
def Obligations.TestDoneHandsResult : Prop :=
  ∀ (s : State) (c : TestContext), s.supply.power = .running → s.test.context = some c → c.phase = .relax → c.events = 500 →
    s.batt.hold = true → s.test.inHand = none →
    ∃ t : State, exec .testDone s = .next t.askSleep ∧ t.test.context = none ∧ t.test.gate = false ∧ t.batt.hold = false ∧ t.batt.window = []
      ∧ t.batt.evalCount = 0 ∧ t.batt.band = s.batt.band ∧ t.test.carryCount = 0
      ∧ (500 ≤ c.iLoad - c.iRest → c.iLoad - c.iRest ≤ 16383 →
          t.test.inHand = some
              { deltaV := (c.vRest - c.vLoad).toNat, deltaI := (c.iLoad - c.iRest).toNat, startBand := c.startBand, startTime := c.startTime }
            ∧ (s.term.wakePending = false → t.test.results = s.test.results) ∧ t.test.carry = false
            ∧ (s.share.stage = none → t.share = { s.share with stage := some .test, stageTaken := some s.clock })
            ∧ (s.share.stage = some .share → t.share = { s.share with waiting := some .test }))
      ∧ ((c.iLoad - c.iRest < 500 ∨ 16383 < c.iLoad - c.iRest) →
          t.test.inHand = none ∧ t.share = s.share ∧ t.test.carry = false ∧ t.test.due = false
            ∧ t.test.schedule = s.testInterval.map (fun d => c.startTime + d)
            ∧ t.test.results.head? = some { kind := .pulse, verdict := .badLoad, value := none, round := s.round.number, band := c.startBand })
      ∧ (s.term.wakePending = true → s.batt.band ≠ .unrated → (s.term.mode = .hold ∨ s.term.mode = .off) →
          let allowed : Prop := s.supply.mains = .present ∨ s.batt.band = .full ∨ s.batt.band = .good ∨ s.batt.band = .low
            ∨ (s.batt.band = .reserve ∧ (s.term.demand = .emergency ∨ s.bootDraw ≤ s.share.feedGrant))
            ∨ (s.batt.band = .cutoff ∧ s.bootDraw ≤ s.share.feedGrant)
          (allowed → s.pins.ready = false →
              t.term = { s.term with
                  mode := .booting, bootTimer := some s.clock, idleTimer := none, retryWait := none, wakePending := false
                  wakeMark := decide (s.term.mode = .hold), deferredHold := false }
                ∧ t.test.wakeCheck = (if s.term.mode = .hold then some s.batt.band else s.test.wakeCheck))
            ∧ (¬ allowed → t.term = { s.term with deferredHold := false }))
      ∧ t = { s with share := t.share, batt := t.batt, term := t.term, test := t.test }

/-- The resistance of a result in hand is floor(ΔV × 1,000 × RECIP(ΔI) / 2^24) mΩ; its record, with the verdict of the strapped chemistry's
limits, goes to the head of the list, which keeps four; the result in hand is cleared, the next due time is the start time + the interval,
and the stage is given back. That this holds too after a mains return has dropped the schedule is the model's reading (log 19). -/
def Obligations.ResistanceWritesRecord : Prop :=
  ∀ (s : State) (r : ResultInHand), s.supply.power = .running → s.test.inHand = some r → s.share.stage = some .test →
    let ohms := r.deltaV * 1000 * recip r.deltaI / 2 ^ 24
    let limits : Nat × Nat := if s.chemistry = .leadAcid then (60, 120) else (40, 80)
    let verdict : Verdict := if ohms ≤ limits.1 then .pass else if ohms ≤ limits.2 then .weak else .fail
    ∃ t : State, exec .resistanceComputed s = .next t.askSleep ∧ t.test.inHand = none
      ∧ t.test.results = ({ kind := .pulse, verdict := verdict, value := some ohms, round := s.round.number, band := r.startBand }
          :: s.test.results).take 4
      ∧ t.test.schedule = s.testInterval.map (fun d => r.startTime + d) ∧ t.test.due = false
      ∧ t.share = { s.share with stage := s.share.waiting, waiting := none, stageTaken := none }
      ∧ t = { s with share := t.share, test := t.test }

/-! ### The terminal interface -/

/-- The two demand lines carry the four levels; a change of them makes the new level the candidate, its time starting now. A demand candidate
that has stood 20 ms becomes the demand level; before the first band evaluation it is only taken. From then on it wakes a sleeping part,
SESSION and EMERGENCY abort a test in flight, and it requests a wake: from HOLD and OFF (CUTOFF) at a level other than IDLE, from OFF (RETRY)
and FAULT at any. With no test in flight, the wake is made at once with mains PRESENT, at band FULL, GOOD or LOW, at RESERVE on EMERGENCY or a
feed grant of the boot draw, and at CUTOFF on such a grant: BOOTING with power on and hold released, as a wake check exactly from HOLD, the
retry count 0 from FAULT; otherwise it stands pending, FAULT going to OFF (RELEASED). A wake that is pending in HOLD or OFF already is made in
the same way, whatever the level taken. -/
def Obligations.DemandLevelIsTaken : Prop :=
  (∀ l : DemandLines, demandLevelOf l
      = (if l.high then (if l.low then .emergency else .session) else if l.low then .wanted else .idle))
    ∧ (∀ (l : DemandLines) (s : State), s.supply.power = .running →
        (demandLevelOf l ≠ s.term.candidate → exec (.demandLinesChange l) s
          = .next (State.askSleep { s with term := { s.term with candidate := demandLevelOf l, candidateSince := s.clock } }))
        ∧ (demandLevelOf l = s.term.candidate → exec (.demandLinesChange l) s = .next s.askSleep))
    ∧ ∀ s : State, s.supply.power = .running → s.term.candidate ≠ s.term.demand → s.term.candidateSince + 20 * 3200 ≤ s.clock →
    let requests : Prop := ((s.term.mode = .hold ∨ (s.term.mode = .off ∧ s.term.offReason = .cutoff)) ∧ s.term.candidate ≠ .idle)
      ∨ (s.term.mode = .off ∧ s.term.offReason = .retry) ∨ s.term.mode = .fault
    let granted : Prop := s.bootDraw ≤ s.share.feedGrant
    let allowed : Prop := s.supply.mains = .present ∨ s.batt.band = .full ∨ s.batt.band = .good ∨ s.batt.band = .low
      ∨ (s.batt.band = .reserve ∧ (s.term.candidate = .emergency ∨ granted)) ∨ (s.batt.band = .cutoff ∧ granted)
    ∃ t : State, exec .demandLevelTaken s = .next t.askSleep ∧ t.term.demand = s.term.candidate
      ∧ (s.batt.band = .unrated → t = { s with term := { s.term with demand := s.term.candidate } })
      ∧ (s.batt.band ≠ .unrated → t.supply.asleep = false
          ∧ (s.term.candidate ≠ .idle → t.term.idleTimer = none ∧ t.term.deferredHold = false)
          ∧ ((s.term.candidate = .session ∨ s.term.candidate = .emergency) → t.test.context = none))
      ∧ (s.batt.band ≠ .unrated → s.test.context = none → s.pins.ready = false →
          (requests ∨ (s.term.wakePending = true ∧ (s.term.mode = .hold ∨ s.term.mode = .off))) → allowed →
          t.term.mode = .booting ∧ t.powerEnable = true ∧ t.holdLine = false ∧ t.term.bootTimer = some s.clock
            ∧ t.term.wakePending = false ∧ t.term.wakeMark = decide (s.term.mode = .hold)
            ∧ t.term.retryCount = (if s.term.mode = .fault then 0 else s.term.retryCount) ∧ t.term.retryWait = none
            ∧ t.test.wakeCheck = (if s.term.mode = .hold then some s.batt.band else s.test.wakeCheck))
      ∧ (s.batt.band ≠ .unrated → s.test.context = none → requests → ¬ allowed → (s.batt.band = .cutoff → s.term.mode ≠ .hold) →
          t.term.wakePending = true ∧ t.term.mode = (if s.term.mode = .fault then .off else s.term.mode)
            ∧ t.term.offReason = (if s.term.mode = .fault then .released else s.term.offReason)
            ∧ t.term.retryCount = (if s.term.mode = .fault then 0 else s.term.retryCount)
            ∧ (s.term.mode = .off → s.term.offReason = .retry → t.term.retryWait = none))
      ∧ (s.supply.asleep = false → t.status = s.status)
      ∧ t = { s with
          supply := t.supply, line := t.line, batt := t.batt, term := t.term, test := t.test
          status := { s.status with repeatTimer := t.status.repeatTimer } }

/-- Power is on in HOLD, BOOTING and ACTIVE, and hold asserted in HOLD alone. Ready seen in BOOTING up to the boot limit, the limit itself
included where it is taken before the timeout, makes the terminal ACTIVE, hands a marked boot's time in tenths of a second, 1,199 at most, to
the result list and starts the idle timer in an outage with demand IDLE; in an outage at RESERVE one at demand IDLE or WANTED, and at CUTOFF
any, whose feed grant does not cover its ACTIVE draw goes on to HOLD or OFF (CUTOFF) at once. Ready lost in ACTIVE is a new boot with hold
released and retry count 0 and aborts a test in flight. Ready seen outside BOOTING and ready lost outside ACTIVE keep the level and leave the
terminal as it is; every change of the line wakes a sleeping part. That the level is kept in every state is the model's (log 35), and so is a
value of 1,199 at the limit of 120 s itself (log 47). -/
def Obligations.ReadyLineMovesTerminal : Prop :=
  (∀ s : State, (s.powerEnable = true ↔ s.term.mode = .hold ∨ s.term.mode = .booting ∨ s.term.mode = .active)
      ∧ (s.holdLine = true ↔ s.term.mode = .hold))
    ∧ (∀ (s : State) (began : Time), s.supply.power = .running → s.supply.asleep = false → s.term.mode = .booting →
      s.term.bootTimer = some began → s.clock - began ≤ s.bootLimit * 3200000 →
      let short : Prop := s.supply.mains = .absent ∧ s.share.feedGrant < s.activeDraw
      let forced : Prop := short ∧ s.batt.band = .reserve ∧ (s.term.demand = .idle ∨ s.term.demand = .wanted)
      let cutoff : Prop := short ∧ s.batt.band = .cutoff
      ∃ t : State, exec .readySeen s = .next t.askSleep
        ∧ (¬ forced → ¬ cutoff → t.term = { s.term with
            mode := .active, bootTimer := none, retryCount := 0, wakeMark := false
            idleTimer := if s.supply.mains = .absent ∧ s.term.demand = .idle then some s.clock else none })
        ∧ (forced → t.term = { s.term with mode := .hold, bootTimer := none, retryCount := 0, wakeMark := false, idleTimer := none })
        ∧ (cutoff → t.term = { s.term with
            mode := .off, offReason := .cutoff, bootTimer := none, retryCount := 0, wakeMark := false, idleTimer := none })
        ∧ (s.term.wakeMark = true → t.test.wakeCheck = none ∧ t.test.results.head? = some
            { kind := .wake, verdict := .ok, value := some (min 1199 ((s.clock - began) / 320000)), round := s.round.number
              band := s.test.wakeCheck.getD s.batt.band })
        ∧ (s.term.wakeMark = false → t.test.results = s.test.results)
        ∧ t = { s with pins := { s.pins with ready := true }, term := t.term, test := t.test })
    ∧ (∀ s : State, s.supply.power = .running → s.term.mode ≠ .booting → (s.supply.asleep = false ∨ s.pins.ready = true) →
        ∃ t : State, exec .readySeen s = .next t.askSleep
          ∧ t = { s with pins := { s.pins with ready := true }, test := { s.test with carry := t.test.carry } })
    ∧ (∀ s : State, s.supply.power = .running → s.term.mode = .active →
        ∃ t : State, exec .readyLost s = .next t.askSleep ∧ t.term.mode = .booting ∧ t.powerEnable = true ∧ t.holdLine = false
          ∧ t.term.bootTimer = some s.clock ∧ t.term.retryCount = 0
          ∧ t.term.wakeMark = false ∧ t.term.idleTimer = none ∧ t.test.context = none
          ∧ (s.supply.asleep = false → t.status = s.status)
          ∧ t = { s with
            pins := { s.pins with ready := false }, supply := t.supply, line := t.line, batt := t.batt, term := t.term, test := t.test
            status := { s.status with repeatTimer := t.status.repeatTimer } })
    ∧ (∀ s : State, s.supply.power = .running → (s.supply.asleep = false ∨ s.pins.ready = false) → s.term.mode ≠ .active →
        exec .readyLost s = .next (State.askSleep { s with pins := { s.pins with ready := false } }))
    ∧ ∀ s : State, s.supply.power = .running → s.supply.asleep = true → s.term.mode ≠ .booting →
        (s.pins.ready = false → ∃ t : State, exec .readySeen s = .next t.askSleep ∧ t.supply.asleep = false
            ∧ t.supply.oscillator = .starting s.clock ∧ t.supply.wokeAt = some s.clock ∧ t.term = s.term)
          ∧ (s.pins.ready = true → ∃ t : State, exec .readyLost s = .next t.askSleep ∧ t.supply.asleep = false
            ∧ t.supply.oscillator = .starting s.clock ∧ t.supply.wokeAt = some s.clock
            ∧ (s.term.mode ≠ .active → t.term = s.term))

/-- A boot that reaches its limit of 45, 60, 90 or 120 s is handed to the test unit as a TIMEOUT; with retry count 0 the terminal is OFF
(RETRY) with the retry wait of 10 s, with retry count 1 it is in FAULT. -/
def Obligations.BootTimeoutRetriesThenFaults : Prop :=
  ∀ (s : State) (began : Time), s.supply.power = .running → s.term.mode = .booting → s.term.bootTimer = some began →
    ([45, 60, 90, 120][s.profile]?).getD 0 * 3200000 ≤ s.clock - began →
    ∃ t : State, exec .bootTimeout s = .next t.askSleep
      ∧ t.test = { s.test with
          wakeCheck := none
          results := ({ kind := .wake, verdict := .timeout, value := some (([450, 600, 900, 1200][s.profile]?).getD 0)
                        round := s.round.number, band := s.test.wakeCheck.getD s.batt.band } :: s.test.results).take 4 }
      ∧ (s.term.retryCount = 0 → t.term = { s.term with
          mode := .off, offReason := .retry, bootTimer := none, wakeMark := false, retryCount := 1
          retryWait := some (s.clock + 10 * 3200000) })
      ∧ (s.term.retryCount ≠ 0 → t.term = { s.term with
          mode := .fault, bootTimer := none, wakeMark := false, retryCount := 0, wakePending := false })
      ∧ t = { s with term := t.term, test := t.test }

/-- The terminal's other timers: the retry wait's end requests a wake, made at once if no test is in flight and the gating holds (mains
PRESENT, band FULL, GOOD or LOW, RESERVE on EMERGENCY or a feed grant of the boot draw, CUTOFF on such a grant), and pending otherwise; the
idle timer at 120 s puts the terminal in HOLD with its hold line asserted, or defers the hold to the end of a test in flight, and the timer
then stops (the model's reading, log 20); a keep-alive time moves the schedule on by 1,200 s and requests a wake, on the same gating, of a
terminal in HOLD alone that acts. -/
def Obligations.TerminalTimersExpire : Prop :=
  (∀ (s : State) (e : Time), s.supply.power = .running → s.term.mode = .off → s.term.offReason = .retry → s.term.retryWait = some e →
      e ≤ s.clock →
      (s.supply.mains = .present → s.test.context = none → s.pins.ready = false →
          exec .retryWaitExpiry s = .next (State.askSleep { s with term := { s.term with
            mode := .booting, bootTimer := some s.clock, idleTimer := none, retryWait := none, wakePending := false
            wakeMark := false } }))
        ∧ (s.supply.mains = .absent → s.batt.band = .reserve → s.term.demand ≠ .emergency → s.share.feedGrant < s.bootDraw →
            exec .retryWaitExpiry s = .next (State.askSleep { s with term := { s.term with retryWait := none, wakePending := true } }))
        ∧ (let allowed : Prop := s.supply.mains = .present ∨ s.batt.band = .full ∨ s.batt.band = .good ∨ s.batt.band = .low
            ∨ (s.batt.band = .reserve ∧ (s.term.demand = .emergency ∨ s.bootDraw ≤ s.share.feedGrant))
            ∨ (s.batt.band = .cutoff ∧ s.bootDraw ≤ s.share.feedGrant)
          ∃ t : State, exec .retryWaitExpiry s = .next t.askSleep
            ∧ (s.test.context = none → allowed → s.pins.ready = false → t.term = { s.term with
                mode := .booting, bootTimer := some s.clock, idleTimer := none, retryWait := none, wakePending := false
                wakeMark := false })
            ∧ ((s.test.context ≠ none ∨ ¬ allowed) → t.term = { s.term with retryWait := none, wakePending := true })
            ∧ (s.pins.ready = false → t.test = { s.test with carry := t.test.carry })
            ∧ t = { s with term := t.term, test := t.test }))
    ∧ (∀ (s : State) (b : Time), s.supply.power = .running → s.term.mode = .active → s.term.idleTimer = some b →
        b + 120 * 3200000 ≤ s.clock →
        (s.test.context ≠ none →
            exec .idleTimerExpiry s = .next (State.askSleep { s with term := { s.term with idleTimer := none, deferredHold := true } }))
          ∧ (s.test.context = none →
              ∃ t : State, exec .idleTimerExpiry s = .next t.askSleep ∧ t.term = { s.term with mode := .hold, idleTimer := none, bootTimer := none }
                ∧ t.powerEnable = true ∧ t.holdLine = true
                ∧ t = { s with term := t.term, test := t.test }))
    ∧ ∀ (s : State) (k : Time), s.supply.power = .running → s.term.keepAlive = some k → k ≤ s.clock →
        (s.term.mode ≠ .hold →
            exec .keepAliveTime s = .next (State.askSleep { s with term := { s.term with keepAlive := some (k + 1200 * 3200000) } }))
          ∧ (s.batt.band = .unrated →
              exec .keepAliveTime s = .next (State.askSleep { s with term := { s.term with keepAlive := some (k + 1200 * 3200000) } }))
          ∧ (s.term.mode = .hold → s.batt.band ≠ .unrated →
              let allowed : Prop := s.supply.mains = .present ∨ s.batt.band = .full ∨ s.batt.band = .good ∨ s.batt.band = .low
                ∨ (s.batt.band = .reserve ∧ (s.term.demand = .emergency ∨ s.bootDraw ≤ s.share.feedGrant))
                ∨ (s.batt.band = .cutoff ∧ s.bootDraw ≤ s.share.feedGrant)
              ∃ t : State, exec .keepAliveTime s = .next t.askSleep ∧ t.term.keepAlive = some (k + 1200 * 3200000)
                ∧ (s.test.context = none → allowed → s.pins.ready = false →
                    t.term = { s.term with
                        mode := .booting, bootTimer := some s.clock, idleTimer := none, retryWait := none, wakePending := false
                        wakeMark := true, keepAlive := t.term.keepAlive }
                      ∧ t.test.wakeCheck = some s.batt.band)
                ∧ ((s.test.context ≠ none ∨ ¬ allowed) →
                    t.term = { s.term with wakePending := true, keepAlive := t.term.keepAlive }
                      ∧ t.test = { s.test with carry := t.test.carry })
                ∧ t = { s with term := t.term, test := t.test })

/-! ### The status reporter -/

/-- The status reporter's commands: a MUTED station asks for its frame at t0 + 700 ms, captured as it stands; the end of a frame starts a
pending one or leaves none; the repeat timer restarts at its expiry and asks for a frame. The repeat timer runs exactly while the station is
awake, has made its first band evaluation and is LISTEN or unreferenced: whatever the command, it starts for 1,000 ms where these come to hold,
stops where they cease, and is left as it is, but at its expiry, where they go on holding. -/
def Obligations.StatusFramesAreSent : Prop :=
  (∀ s : State, s.supply.power = .running → s.supply.oscillator = .stable → s.status.frame = none → s.round.participation = .muted →
      s.round.reportPending = true → s.round.t0 + 700 * 3200 ≤ s.clock →
      ∃ t : State, exec .mutedReportPoint s = .next t.askSleep ∧ t.status.frame = some { bytes := statusBytes s, began := s.clock }
        ∧ t.status.pending = false ∧ t.round = { s.round with reportPending := false }
        ∧ t = { s with round := t.round, status := t.status, supply := t.supply })
    ∧ (∀ (s : State) (f : StatusFrame), s.supply.power = .running → s.supply.oscillator = .stable →
        s.status.frame = some f → 10000 * f.bytes.length ≤ 3 * (s.clock - f.began) →
        ∃ t : State, exec .statusFrameEnd s = .next t.askSleep ∧ t.status.pending = false
          ∧ t.status.frame = (if s.status.pending then some { bytes := statusBytes s, began := s.clock } else none)
          ∧ t = { s with status := t.status, supply := t.supply })
    ∧ (∀ (s : State) (e : Time), s.supply.power = .running → s.supply.oscillator = .stable → s.status.frame = none →
        s.status.repeatTimer = some e → e ≤ s.clock → s.supply.asleep = false → s.batt.band ≠ .unrated →
        (s.round.participation = .listen ∨ s.round.referenced = false) →
        ∃ t : State, exec .repeatTimerExpiry s = .next t.askSleep ∧ t.status.repeatTimer = some (s.clock + 1000 * 3200)
          ∧ t.status.frame = some { bytes := statusBytes s, began := s.clock }
          ∧ t = { s with status := t.status, supply := t.supply })
    ∧ ∀ (c : Instr) (s t : State), exec c s = .next t → (s.round.participation = .listen → s.round.referenced = false) →
        let runs (u : State) : Prop := u.supply.asleep = false ∧ u.batt.band ≠ .unrated
          ∧ (u.round.participation = .listen ∨ u.round.referenced = false)
        (s.status.repeatTimer.isSome = true ↔ runs s) →
          (t.status.repeatTimer.isSome = true ↔ runs t)
            ∧ (¬ runs s → runs t → t.status.repeatTimer = some (s.clock + 1000 * 3200))
            ∧ (runs s → runs t → c ≠ .repeatTimerExpiry → t.status.repeatTimer = s.status.repeatTimer)

/-- A status frame is 20 bytes and 4 for each record, with A5h and the length before the rest. Bytes 2, 3, 5 and 6 give back tempo, start cause,
address, band hold, line-stuck flag, mains state, confinement, referenced flag, participation, wake-pending flag, off reason (0 unless OFF),
demand level, terminal state, both switches, converter state and band by their codes; byte 4 and bytes 7 to 19 are the round number, the budget
used, grants, setpoints, peers, counts and the result count; each record follows with its kind, band, verdict, value (65,535 if absent) and round
number. On the status line each byte of a frame takes ten bit times of 9,600 baud from the moment the frame began (log 34): a start bit low,
its 8 bits from the least significant on, a stop bit high; without a frame, and after its last byte, the line is high. -/
def Obligations.StatusFrameLayout : Prop :=
  (∀ (s : State) (f : StatusFrame) (i n : Nat), s.status.frame = some f → n < 10 →
      1000 * (10 * i + n) ≤ 3 * (s.clock - f.began) → 3 * (s.clock - f.began) < 1000 * (10 * i + n + 1) →
      s.statusLevel = (match f.bytes[i]? with
        | none => true
        | some b => if n = 0 then false else if n = 9 then true else decide (b.toNat / 2 ^ (n - 1) % 2 = 1)))
    ∧ (∀ s : State, s.status.frame = none → s.statusLevel = true)
    ∧ ∀ s : State, s.test.results.length ≤ 4 →
    (statusBytes s).length = 20 + 4 * s.test.results.length
      ∧ (statusBytes s)[0]? = some 0xA5 ∧ (statusBytes s)[1]? = some (BitVec.ofNat 8 (18 + 4 * s.test.results.length))
      ∧ (∃ b : Byte, (statusBytes s)[2]? = some b ∧ [Tempo.fast, .slow][b.toNat / 128]? = some s.round.tempo
          ∧ [StartCause.cold, .dip][b.toNat / 64 % 2]? = some s.supply.cause ∧ b.toNat % 64 = s.address.val)
      ∧ (∃ b : Byte, (statusBytes s)[3]? = some b ∧ [false, true][b.toNat / 128]? = some s.batt.hold
          ∧ [false, true][b.toNat / 64 % 2]? = some s.line.stuck ∧ [MainsState.absent, .present][b.toNat / 32 % 2]? = some s.supply.mains
          ∧ [Confinement.active, .quiet, .offline][b.toNat / 8 % 4]? = some s.line.confinement
          ∧ [false, true][b.toNat / 4 % 2]? = some s.round.referenced
          ∧ [Participation.listen, .member, .muted][b.toNat % 4]? = some s.round.participation)
      ∧ (statusBytes s)[4]? = some s.round.number
      ∧ (∃ b : Byte, (statusBytes s)[5]? = some b ∧ [false, true][b.toNat / 128]? = some s.term.wakePending
          ∧ [OffReason.start, .retry, .cutoff, .released][b.toNat / 32 % 4]?
              = some (if s.term.mode = .off then s.term.offReason else .start)
          ∧ [DemandLevel.idle, .wanted, .session, .emergency][b.toNat / 8 % 4]? = some s.term.demand
          ∧ [TerminalMode.off, .hold, .booting, .active, .fault][b.toNat % 8]? = some s.term.mode)
      ∧ (∃ b : Byte, (statusBytes s)[6]? = some b ∧ [Switch.opened, .closed][b.toNat / 128]? = some s.batt.charge
          ∧ [Switch.opened, .closed][b.toNat / 64 % 2]? = some s.batt.discharge
          ∧ [ConverterMode.idle, .run, .held, .disabled, .riserAbsent][b.toNat / 8 % 8]? = some s.conv.mode
          ∧ [Band.unrated, .full, .good, .low, .reserve, .cutoff][b.toNat % 8]? = some s.batt.band)
      ∧ (s.share.budgetUsed < 65536 → ∃ hi lo : Byte, (statusBytes s)[7]? = some hi ∧ (statusBytes s)[8]? = some lo
          ∧ hi.toNat * 256 + lo.toNat = s.share.budgetUsed)
      ∧ (statusBytes s)[9]? = some (BitVec.ofNat 8 s.share.feedGrant)
      ∧ (statusBytes s)[10]? = some (BitVec.ofNat 8 s.share.chargeGrant)
      ∧ (statusBytes s)[11]? = some (BitVec.ofNat 8 s.conv.feedSetpoint)
      ∧ (statusBytes s)[12]? = some (BitVec.ofNat 8 s.conv.chargeSetpoint)
      ∧ (statusBytes s)[13]? = some (BitVec.ofNat 8 (maskCount s.peers.present))
      ∧ (statusBytes s)[14]? = some (BitVec.ofNat 8 (maskCount s.peers.held))
      ∧ (statusBytes s)[15]? = some (BitVec.ofNat 8 s.line.txErrors) ∧ (statusBytes s)[16]? = some (BitVec.ofNat 8 s.line.rxErrors)
      ∧ (statusBytes s)[17]? = some (BitVec.ofNat 8 s.line.unheard) ∧ (statusBytes s)[18]? = some (BitVec.ofNat 8 s.line.unsent)
      ∧ (statusBytes s)[19]? = some (BitVec.ofNat 8 s.test.results.length)
      ∧ ∀ (i : Nat) (r : ResultRecord), s.test.results[i]? = some r →
          (∃ b : Byte, (statusBytes s)[20 + 4 * i]? = some b ∧ [ResultKind.pulse, .wake][b.toNat / 128]? = some r.kind
              ∧ [Band.unrated, .full, .good, .low, .reserve, .cutoff][b.toNat / 16 % 8]? = some r.band
              ∧ [Verdict.pass, .weak, .fail, .aborted, .notCarried, .badLoad, .deferred, .ok, .timeout][b.toNat % 16]?
                  = some r.verdict)
            ∧ (r.value.getD 65535 < 65536 → ∃ hi lo : Byte, (statusBytes s)[21 + 4 * i]? = some hi
                ∧ (statusBytes s)[22 + 4 * i]? = some lo ∧ hi.toNat * 256 + lo.toNat = r.value.getD 65535)
            ∧ (statusBytes s)[23 + 4 * i]? = some r.round

/-! ### Invariants that every step keeps -/

/-- From every state in which the driver is safe and the confinement state agrees with its counts, a step leads to such a state: a station that
is OFFLINE, in LISTEN, stuck or without a STABLE oscillator has its driver recessive and its dominant drive time 0. That OFFLINE, LISTEN and
the line-stuck flag keep the driver recessive also against a standing driver fault is the model's choice (log 46). -/
def Obligations.StepKeepsLineSafe : Prop :=
  ∀ s t : State, DriverSafe s → ConfinementAgrees s → step s = .next t → DriverSafe t ∧ ConfinementAgrees t

/-- A step keeps the converter's gates off and setpoints 0 outside RUN, never has both gates on, and keeps each setpoint of a RUN converter
at or below its target. The targets: for a referenced MEMBER whose own record exists the feed grant in force, and the charge grant in force
within what the feed target leaves of G_max; for any other station the orphan allowance of 4 feed units, and 0. -/
def Obligations.StepKeepsConverterSafe : Prop :=
  (∀ s : State,
      (s.drawsByGrant = true ↔ s.round.participation = .member ∧ s.round.referenced = true ∧ maskHas s.peers.present s.address = true)
        ∧ (s.drawsByGrant = true → s.feedTarget = s.share.feedGrant
          ∧ s.chargeTarget = min s.share.chargeGrant (s.ceiling - s.share.feedGrant))
        ∧ (s.drawsByGrant = false → s.feedTarget = 4 ∧ s.chargeTarget = 0))
    ∧ ∀ s t : State, ConverterSafe s → GatesExclusive s → SetpointsWithinTargets s → step s = .next t →
    ConverterSafe t ∧ GatesExclusive t ∧ SetpointsWithinTargets t

/-- A step keeps the pulse load, the band hold and the test in flight together, with the conditions whose loss aborts a test. -/
def Obligations.StepKeepsTestSafe : Prop :=
  ∀ s t : State, TestSafe s → TestConditions s → step s = .next t → TestSafe t ∧ TestConditions t

/-- A step keeps both battery switches where their rules put them: the discharge switch OPEN exactly at CUTOFF; the charge switch CLOSED
exactly with mains PRESENT at band GOOD, LOW, RESERVE or CUTOFF, or with a charge setpoint above 0, and then not while UNRATED or with a test in
flight. A CLOSED one holds to the charge limit: 1,500 mA for lead-acid and 2,000 mA for lithium with mains PRESENT, and in an outage no more than
50 mA for each feed unit of the charge setpoint. -/
def Obligations.StepKeepsBatterySwitches : Prop :=
  (∀ s : State, s.chargeCloses = true ↔
      ((s.supply.mains = .present ∧ (s.batt.band = .good ∨ s.batt.band = .low ∨ s.batt.band = .reserve ∨ s.batt.band = .cutoff))
        ∨ 0 < s.conv.chargeSetpoint)
      ∧ s.batt.band ≠ .unrated ∧ s.test.context = none)
    ∧ (∀ s : State,
      let chemical := if s.chemistry = .leadAcid then 1500 else 2000
      s.chargeLimitNow = if s.supply.mains = .present then chemical else min chemical (50 * s.conv.chargeSetpoint))
    ∧ ∀ s t : State, DischargeSafe s → ChargeSafe s → TestSafe s → step s = .next t → DischargeSafe t ∧ ChargeSafe t

/-- A step keeps the grants of a station that is not a referenced MEMBER at 0. -/
def Obligations.StepKeepsGrantsCleared : Prop :=
  ∀ s t : State, GrantsCleared s → step s = .next t → GrantsCleared t

/-- A step keeps the transmit queue's shape, its notices tied to a pending close event, and the queue of a station that is not MEMBER empty.
-/
def Obligations.StepKeepsQueueSafe : Prop :=
  ∀ s t : State, QueueSafe s → step s = .next t → QueueSafe t

/-- A step keeps the peer table sorted by address with the present mask that of its records. -/
def Obligations.StepKeepsPeersSafe : Prop :=
  ∀ s t : State, PeersSafe s → step s = .next t → PeersSafe t

/-- A step keeps the terminal's timers and pending wake in the states their rules give them. -/
def Obligations.StepKeepsTerminalSafe : Prop :=
  ∀ s t : State, TerminalSafe s → step s = .next t → TerminalSafe t

/-- A step keeps every count in the range of its state table, the slots' holdovers (0 to 2) and the events of a test's phase (64, 200 or 500 at
most) among them, and the result list at four records or fewer. -/
def Obligations.StepKeepsCountsInRange : Prop :=
  ∀ s t : State, CountsInRange s → ResultsBounded s → step s = .next t → CountsInRange t ∧ ResultsBounded t
end

