-- ==== Sys2Proof/Laws/Frames.lean ====
section
/-! SUPPORT. For each shared operation, the blocks of the state that it leaves as they are. A proof about a block cites these and unfolds
none of the operations. -/

namespace Sys2Proof.Machine

/-! ### Ops -/

@[simp] theorem State.examineCharge_frame (s : State) :
    (s.examineCharge).clock = s.clock ∧ (s.examineCharge).supply = s.supply ∧ (s.examineCharge).pins = s.pins ∧
      (s.examineCharge).round = s.round ∧ (s.examineCharge).peers = s.peers ∧ (s.examineCharge).share = s.share ∧
      (s.examineCharge).demand = s.demand ∧ (s.examineCharge).line = s.line ∧ (s.examineCharge).conv = s.conv ∧
      (s.examineCharge).term = s.term ∧ (s.examineCharge).test = s.test ∧ (s.examineCharge).status = s.status ∧
      (s.examineCharge).pending = s.pending := by
  unfold State.examineCharge
  try dsimp only
  repeat' split
  all_goals simp

@[simp] theorem State.addResult_frame (s : State) (k : ResultKind) (v : Verdict) (x : Option Nat) (b : Band) :
    (s.addResult k v x b).clock = s.clock ∧ (s.addResult k v x b).supply = s.supply ∧ (s.addResult k v x b).pins = s.pins ∧
      (s.addResult k v x b).round = s.round ∧ (s.addResult k v x b).peers = s.peers ∧ (s.addResult k v x b).share = s.share ∧
      (s.addResult k v x b).demand = s.demand ∧ (s.addResult k v x b).line = s.line ∧ (s.addResult k v x b).conv = s.conv ∧
      (s.addResult k v x b).batt = s.batt ∧ (s.addResult k v x b).term = s.term ∧ (s.addResult k v x b).status = s.status ∧
      (s.addResult k v x b).pending = s.pending := by
  unfold State.addResult
  try dsimp only
  all_goals simp

@[simp] theorem State.closeWakeCheck_frame (s : State) :
    (s.closeWakeCheck).clock = s.clock ∧ (s.closeWakeCheck).supply = s.supply ∧ (s.closeWakeCheck).pins = s.pins ∧
      (s.closeWakeCheck).round = s.round ∧ (s.closeWakeCheck).peers = s.peers ∧ (s.closeWakeCheck).share = s.share ∧
      (s.closeWakeCheck).demand = s.demand ∧ (s.closeWakeCheck).line = s.line ∧ (s.closeWakeCheck).conv = s.conv ∧
      (s.closeWakeCheck).batt = s.batt ∧ (s.closeWakeCheck).term = s.term ∧ (s.closeWakeCheck).status = s.status ∧
      (s.closeWakeCheck).pending = s.pending := by
  unfold State.closeWakeCheck
  try dsimp only
  all_goals simp

@[simp] theorem State.beginWakeCheck_frame (s : State) :
    (s.beginWakeCheck).clock = s.clock ∧ (s.beginWakeCheck).supply = s.supply ∧ (s.beginWakeCheck).pins = s.pins ∧
      (s.beginWakeCheck).round = s.round ∧ (s.beginWakeCheck).peers = s.peers ∧ (s.beginWakeCheck).share = s.share ∧
      (s.beginWakeCheck).demand = s.demand ∧ (s.beginWakeCheck).line = s.line ∧ (s.beginWakeCheck).conv = s.conv ∧
      (s.beginWakeCheck).batt = s.batt ∧ (s.beginWakeCheck).term = s.term ∧ (s.beginWakeCheck).status = s.status ∧
      (s.beginWakeCheck).pending = s.pending := by
  unfold State.beginWakeCheck
  try dsimp only
  all_goals simp

@[simp] theorem State.handTimeout_frame (s : State) :
    (s.handTimeout).clock = s.clock ∧ (s.handTimeout).supply = s.supply ∧ (s.handTimeout).pins = s.pins ∧ (s.handTimeout).round =
      s.round ∧ (s.handTimeout).peers = s.peers ∧ (s.handTimeout).share = s.share ∧ (s.handTimeout).demand = s.demand ∧
      (s.handTimeout).line = s.line ∧ (s.handTimeout).conv = s.conv ∧ (s.handTimeout).batt = s.batt ∧ (s.handTimeout).term =
      s.term ∧ (s.handTimeout).status = s.status ∧ (s.handTimeout).pending = s.pending := by
  unfold State.handTimeout
  try dsimp only
  all_goals simp

@[simp] theorem State.enterHold_frame (s : State) :
    (s.enterHold).clock = s.clock ∧ (s.enterHold).supply = s.supply ∧ (s.enterHold).pins = s.pins ∧ (s.enterHold).round = s.round
      ∧ (s.enterHold).peers = s.peers ∧ (s.enterHold).share = s.share ∧ (s.enterHold).demand = s.demand ∧ (s.enterHold).line =
      s.line ∧ (s.enterHold).conv = s.conv ∧ (s.enterHold).batt = s.batt ∧ (s.enterHold).test = s.test ∧ (s.enterHold).status =
      s.status ∧ (s.enterHold).pending = s.pending := by
  unfold State.enterHold
  try dsimp only
  all_goals simp

@[simp] theorem State.forcedHold_frame (s : State) :
    (s.forcedHold).clock = s.clock ∧ (s.forcedHold).supply = s.supply ∧ (s.forcedHold).pins = s.pins ∧ (s.forcedHold).round =
      s.round ∧ (s.forcedHold).peers = s.peers ∧ (s.forcedHold).share = s.share ∧ (s.forcedHold).demand = s.demand ∧
      (s.forcedHold).line = s.line ∧ (s.forcedHold).conv = s.conv ∧ (s.forcedHold).batt = s.batt ∧ (s.forcedHold).test = s.test ∧
      (s.forcedHold).status = s.status ∧ (s.forcedHold).pending = s.pending := by
  unfold State.forcedHold
  try dsimp only
  repeat' split
  all_goals simp

@[simp] theorem State.cutoffOff_frame (s : State) :
    (s.cutoffOff).clock = s.clock ∧ (s.cutoffOff).supply = s.supply ∧ (s.cutoffOff).pins = s.pins ∧ (s.cutoffOff).round = s.round
      ∧ (s.cutoffOff).peers = s.peers ∧ (s.cutoffOff).share = s.share ∧ (s.cutoffOff).demand = s.demand ∧ (s.cutoffOff).line =
      s.line ∧ (s.cutoffOff).conv = s.conv ∧ (s.cutoffOff).batt = s.batt ∧ (s.cutoffOff).status = s.status ∧ (s.cutoffOff).pending
      = s.pending := by
  unfold State.cutoffOff
  try dsimp only
  repeat' split
  all_goals simp

@[simp] theorem State.powerTests_frame (s : State) :
    (s.powerTests).clock = s.clock ∧ (s.powerTests).supply = s.supply ∧ (s.powerTests).pins = s.pins ∧ (s.powerTests).round =
      s.round ∧ (s.powerTests).peers = s.peers ∧ (s.powerTests).share = s.share ∧ (s.powerTests).demand = s.demand ∧
      (s.powerTests).line = s.line ∧ (s.powerTests).conv = s.conv ∧ (s.powerTests).batt = s.batt ∧ (s.powerTests).status =
      s.status ∧ (s.powerTests).pending = s.pending := by
  unfold State.powerTests
  try dsimp only
  all_goals simp

@[simp] theorem State.enterActive_frame (s : State) (t : Time) :
    (s.enterActive t).clock = s.clock ∧ (s.enterActive t).supply = s.supply ∧ (s.enterActive t).pins = s.pins ∧ (s.enterActive
      t).round = s.round ∧ (s.enterActive t).peers = s.peers ∧ (s.enterActive t).share = s.share ∧ (s.enterActive t).demand =
      s.demand ∧ (s.enterActive t).line = s.line ∧ (s.enterActive t).conv = s.conv ∧ (s.enterActive t).batt = s.batt ∧
      (s.enterActive t).status = s.status ∧ (s.enterActive t).pending = s.pending := by
  unfold State.enterActive
  try dsimp only
  repeat' split
  all_goals simp

@[simp] theorem State.bootReady_frame (s : State) :
    (s.bootReady).clock = s.clock ∧ (s.bootReady).supply = s.supply ∧ (s.bootReady).pins = s.pins ∧ (s.bootReady).round = s.round
      ∧ (s.bootReady).peers = s.peers ∧ (s.bootReady).share = s.share ∧ (s.bootReady).demand = s.demand ∧ (s.bootReady).line =
      s.line ∧ (s.bootReady).conv = s.conv ∧ (s.bootReady).batt = s.batt ∧ (s.bootReady).status = s.status ∧ (s.bootReady).pending
      = s.pending := by
  unfold State.bootReady
  try dsimp only
  repeat' split
  all_goals simp

@[simp] theorem State.enterBooting_frame (s : State) :
    (s.enterBooting).clock = s.clock ∧ (s.enterBooting).supply = s.supply ∧ (s.enterBooting).pins = s.pins ∧
      (s.enterBooting).round = s.round ∧ (s.enterBooting).peers = s.peers ∧ (s.enterBooting).share = s.share ∧
      (s.enterBooting).demand = s.demand ∧ (s.enterBooting).line = s.line ∧ (s.enterBooting).conv = s.conv ∧ (s.enterBooting).batt
      = s.batt ∧ (s.enterBooting).status = s.status ∧ (s.enterBooting).pending = s.pending := by
  unfold State.enterBooting
  try dsimp only
  all_goals simp

@[simp] theorem State.makeWake_frame (s : State) :
    (s.makeWake).clock = s.clock ∧ (s.makeWake).supply = s.supply ∧ (s.makeWake).pins = s.pins ∧ (s.makeWake).round = s.round ∧
      (s.makeWake).peers = s.peers ∧ (s.makeWake).share = s.share ∧ (s.makeWake).demand = s.demand ∧ (s.makeWake).line = s.line ∧
      (s.makeWake).conv = s.conv ∧ (s.makeWake).batt = s.batt ∧ (s.makeWake).status = s.status ∧ (s.makeWake).pending = s.pending := by
  unfold State.makeWake
  try dsimp only
  repeat' split
  all_goals simp

@[simp] theorem State.requestWake_frame (s : State) :
    (s.requestWake).clock = s.clock ∧ (s.requestWake).supply = s.supply ∧ (s.requestWake).pins = s.pins ∧ (s.requestWake).round =
      s.round ∧ (s.requestWake).peers = s.peers ∧ (s.requestWake).share = s.share ∧ (s.requestWake).demand = s.demand ∧
      (s.requestWake).line = s.line ∧ (s.requestWake).conv = s.conv ∧ (s.requestWake).batt = s.batt ∧ (s.requestWake).status =
      s.status ∧ (s.requestWake).pending = s.pending := by
  unfold State.requestWake
  try dsimp only
  repeat' split
  all_goals simp

@[simp] theorem State.regateWake_frame (s : State) :
    (s.regateWake).clock = s.clock ∧ (s.regateWake).supply = s.supply ∧ (s.regateWake).pins = s.pins ∧ (s.regateWake).round =
      s.round ∧ (s.regateWake).peers = s.peers ∧ (s.regateWake).share = s.share ∧ (s.regateWake).demand = s.demand ∧
      (s.regateWake).line = s.line ∧ (s.regateWake).conv = s.conv ∧ (s.regateWake).batt = s.batt ∧ (s.regateWake).status =
      s.status ∧ (s.regateWake).pending = s.pending := by
  unfold State.regateWake
  try dsimp only
  repeat' split
  all_goals simp

@[simp] theorem State.terminalReacts_frame (s : State) :
    (s.terminalReacts).clock = s.clock ∧ (s.terminalReacts).supply = s.supply ∧ (s.terminalReacts).pins = s.pins ∧
      (s.terminalReacts).round = s.round ∧ (s.terminalReacts).peers = s.peers ∧ (s.terminalReacts).share = s.share ∧
      (s.terminalReacts).demand = s.demand ∧ (s.terminalReacts).line = s.line ∧ (s.terminalReacts).conv = s.conv ∧
      (s.terminalReacts).batt = s.batt ∧ (s.terminalReacts).status = s.status ∧ (s.terminalReacts).pending = s.pending := by
  unfold State.terminalReacts
  try dsimp only
  repeat' split
  all_goals simp

@[simp] theorem State.grantSeen_frame (s : State) (n : Nat) :
    (s.grantSeen n).clock = s.clock ∧ (s.grantSeen n).supply = s.supply ∧ (s.grantSeen n).pins = s.pins ∧ (s.grantSeen n).round =
      s.round ∧ (s.grantSeen n).peers = s.peers ∧ (s.grantSeen n).share = s.share ∧ (s.grantSeen n).demand = s.demand ∧
      (s.grantSeen n).line = s.line ∧ (s.grantSeen n).conv = s.conv ∧ (s.grantSeen n).batt = s.batt ∧ (s.grantSeen n).status =
      s.status ∧ (s.grantSeen n).pending = s.pending := by
  unfold State.grantSeen
  try dsimp only
  repeat' split
  all_goals simp

@[simp] theorem State.terminalTestEnded_frame (s : State) :
    (s.terminalTestEnded).clock = s.clock ∧ (s.terminalTestEnded).supply = s.supply ∧ (s.terminalTestEnded).pins = s.pins ∧
      (s.terminalTestEnded).round = s.round ∧ (s.terminalTestEnded).peers = s.peers ∧ (s.terminalTestEnded).share = s.share ∧
      (s.terminalTestEnded).demand = s.demand ∧ (s.terminalTestEnded).line = s.line ∧ (s.terminalTestEnded).conv = s.conv ∧
      (s.terminalTestEnded).batt = s.batt ∧ (s.terminalTestEnded).status = s.status ∧ (s.terminalTestEnded).pending = s.pending := by
  unfold State.terminalTestEnded
  try dsimp only
  repeat' split
  all_goals simp

@[simp] theorem State.releaseHold_frame (s : State) :
    (s.releaseHold).clock = s.clock ∧ (s.releaseHold).supply = s.supply ∧ (s.releaseHold).pins = s.pins ∧ (s.releaseHold).round =
      s.round ∧ (s.releaseHold).peers = s.peers ∧ (s.releaseHold).share = s.share ∧ (s.releaseHold).demand = s.demand ∧
      (s.releaseHold).line = s.line ∧ (s.releaseHold).conv = s.conv ∧ (s.releaseHold).term = s.term ∧ (s.releaseHold).test =
      s.test ∧ (s.releaseHold).status = s.status ∧ (s.releaseHold).pending = s.pending := by
  unfold State.releaseHold
  try dsimp only
  repeat' split
  all_goals simp

@[simp] theorem State.endTest_frame (s : State) :
    (s.endTest).clock = s.clock ∧ (s.endTest).supply = s.supply ∧ (s.endTest).pins = s.pins ∧ (s.endTest).round = s.round ∧
      (s.endTest).peers = s.peers ∧ (s.endTest).share = s.share ∧ (s.endTest).demand = s.demand ∧ (s.endTest).line = s.line ∧
      (s.endTest).conv = s.conv ∧ (s.endTest).status = s.status ∧ (s.endTest).pending = s.pending := by
  unfold State.endTest
  try dsimp only
  all_goals simp

@[simp] theorem State.setDue_frame (s : State) (d : Option Time) :
    (s.setDue d).clock = s.clock ∧ (s.setDue d).supply = s.supply ∧ (s.setDue d).pins = s.pins ∧ (s.setDue d).round = s.round ∧
      (s.setDue d).peers = s.peers ∧ (s.setDue d).share = s.share ∧ (s.setDue d).demand = s.demand ∧ (s.setDue d).line = s.line ∧
      (s.setDue d).conv = s.conv ∧ (s.setDue d).batt = s.batt ∧ (s.setDue d).term = s.term ∧ (s.setDue d).status = s.status ∧
      (s.setDue d).pending = s.pending := by
  unfold State.setDue
  try dsimp only
  all_goals simp

@[simp] theorem State.abortTestDue_frame (s : State) (v : Verdict) (d : Option Time) :
    (s.abortTestDue v d).clock = s.clock ∧ (s.abortTestDue v d).supply = s.supply ∧ (s.abortTestDue v d).pins = s.pins ∧
      (s.abortTestDue v d).round = s.round ∧ (s.abortTestDue v d).peers = s.peers ∧ (s.abortTestDue v d).share = s.share ∧
      (s.abortTestDue v d).demand = s.demand ∧ (s.abortTestDue v d).line = s.line ∧ (s.abortTestDue v d).conv = s.conv ∧
      (s.abortTestDue v d).status = s.status ∧ (s.abortTestDue v d).pending = s.pending := by
  unfold State.abortTestDue
  try dsimp only
  repeat' split
  all_goals simp

@[simp] theorem State.abortTest_frame (s : State) (v : Verdict) :
    (s.abortTest v).clock = s.clock ∧ (s.abortTest v).supply = s.supply ∧ (s.abortTest v).pins = s.pins ∧ (s.abortTest v).round =
      s.round ∧ (s.abortTest v).peers = s.peers ∧ (s.abortTest v).share = s.share ∧ (s.abortTest v).demand = s.demand ∧
      (s.abortTest v).line = s.line ∧ (s.abortTest v).conv = s.conv ∧ (s.abortTest v).status = s.status ∧ (s.abortTest v).pending
      = s.pending := by
  unfold State.abortTest
  try dsimp only
  all_goals simp

@[simp] theorem State.raiseCarry_frame (s : State) :
    (s.raiseCarry).clock = s.clock ∧ (s.raiseCarry).supply = s.supply ∧ (s.raiseCarry).pins = s.pins ∧ (s.raiseCarry).round =
      s.round ∧ (s.raiseCarry).peers = s.peers ∧ (s.raiseCarry).share = s.share ∧ (s.raiseCarry).demand = s.demand ∧
      (s.raiseCarry).line = s.line ∧ (s.raiseCarry).conv = s.conv ∧ (s.raiseCarry).batt = s.batt ∧ (s.raiseCarry).term = s.term ∧
      (s.raiseCarry).status = s.status ∧ (s.raiseCarry).pending = s.pending := by
  unfold State.raiseCarry
  try dsimp only
  repeat' split
  all_goals simp

@[simp] theorem State.setSetpoints_frame (s : State) (f c : Nat) :
    (s.setSetpoints f c).clock = s.clock ∧ (s.setSetpoints f c).supply = s.supply ∧ (s.setSetpoints f c).pins = s.pins ∧
      (s.setSetpoints f c).round = s.round ∧ (s.setSetpoints f c).peers = s.peers ∧ (s.setSetpoints f c).share = s.share ∧
      (s.setSetpoints f c).demand = s.demand ∧ (s.setSetpoints f c).line = s.line ∧ (s.setSetpoints f c).term = s.term ∧
      (s.setSetpoints f c).test = s.test ∧ (s.setSetpoints f c).status = s.status ∧ (s.setSetpoints f c).pending = s.pending := by
  unfold State.setSetpoints
  try dsimp only
  repeat' split
  all_goals simp

@[simp] theorem State.retarget_frame (s : State) :
    (s.retarget).clock = s.clock ∧ (s.retarget).supply = s.supply ∧ (s.retarget).pins = s.pins ∧ (s.retarget).round = s.round ∧
      (s.retarget).peers = s.peers ∧ (s.retarget).share = s.share ∧ (s.retarget).demand = s.demand ∧ (s.retarget).line = s.line ∧
      (s.retarget).term = s.term ∧ (s.retarget).test = s.test ∧ (s.retarget).status = s.status ∧ (s.retarget).pending = s.pending := by
  unfold State.retarget
  try dsimp only
  repeat' split
  all_goals simp

@[simp] theorem State.gatesOff_frame (s : State) :
    (s.gatesOff).clock = s.clock ∧ (s.gatesOff).supply = s.supply ∧ (s.gatesOff).pins = s.pins ∧ (s.gatesOff).round = s.round ∧
      (s.gatesOff).peers = s.peers ∧ (s.gatesOff).share = s.share ∧ (s.gatesOff).demand = s.demand ∧ (s.gatesOff).line = s.line ∧
      (s.gatesOff).batt = s.batt ∧ (s.gatesOff).term = s.term ∧ (s.gatesOff).test = s.test ∧ (s.gatesOff).status = s.status ∧
      (s.gatesOff).pending = s.pending := by
  unfold State.gatesOff
  try dsimp only
  repeat' split
  all_goals simp

@[simp] theorem State.converterStops_frame (s : State) (m : ConverterMode) :
    (s.converterStops m).clock = s.clock ∧ (s.converterStops m).supply = s.supply ∧ (s.converterStops m).pins = s.pins ∧
      (s.converterStops m).round = s.round ∧ (s.converterStops m).peers = s.peers ∧ (s.converterStops m).share = s.share ∧
      (s.converterStops m).demand = s.demand ∧ (s.converterStops m).line = s.line ∧ (s.converterStops m).term = s.term ∧
      (s.converterStops m).test = s.test ∧ (s.converterStops m).status = s.status ∧ (s.converterStops m).pending = s.pending := by
  unfold State.converterStops
  try dsimp only
  all_goals simp

@[simp] theorem State.leaveRun_frame (s : State) (m : ConverterMode) :
    (s.leaveRun m).clock = s.clock ∧ (s.leaveRun m).supply = s.supply ∧ (s.leaveRun m).pins = s.pins ∧ (s.leaveRun m).round =
      s.round ∧ (s.leaveRun m).peers = s.peers ∧ (s.leaveRun m).share = s.share ∧ (s.leaveRun m).demand = s.demand ∧ (s.leaveRun
      m).line = s.line ∧ (s.leaveRun m).status = s.status ∧ (s.leaveRun m).pending = s.pending := by
  unfold State.leaveRun
  try dsimp only
  all_goals simp

@[simp] theorem State.enterRun_frame (s : State) :
    (s.enterRun).clock = s.clock ∧ (s.enterRun).supply = s.supply ∧ (s.enterRun).pins = s.pins ∧ (s.enterRun).round = s.round ∧
      (s.enterRun).peers = s.peers ∧ (s.enterRun).share = s.share ∧ (s.enterRun).demand = s.demand ∧ (s.enterRun).line = s.line ∧
      (s.enterRun).status = s.status ∧ (s.enterRun).pending = s.pending := by
  unfold State.enterRun
  try dsimp only
  repeat' split
  all_goals simp

@[simp] theorem State.enterIdle_frame (s : State) :
    (s.enterIdle).clock = s.clock ∧ (s.enterIdle).supply = s.supply ∧ (s.enterIdle).pins = s.pins ∧ (s.enterIdle).round = s.round
      ∧ (s.enterIdle).peers = s.peers ∧ (s.enterIdle).share = s.share ∧ (s.enterIdle).demand = s.demand ∧ (s.enterIdle).line =
      s.line ∧ (s.enterIdle).term = s.term ∧ (s.enterIdle).test = s.test ∧ (s.enterIdle).status = s.status ∧ (s.enterIdle).pending
      = s.pending := by
  unfold State.enterIdle
  try dsimp only
  all_goals simp

@[simp] theorem State.intervalBoundary_frame (s : State) :
    (s.intervalBoundary).clock = s.clock ∧ (s.intervalBoundary).supply = s.supply ∧ (s.intervalBoundary).pins = s.pins ∧
      (s.intervalBoundary).round = s.round ∧ (s.intervalBoundary).peers = s.peers ∧ (s.intervalBoundary).share = s.share ∧
      (s.intervalBoundary).demand = s.demand ∧ (s.intervalBoundary).line = s.line ∧ (s.intervalBoundary).status = s.status ∧
      (s.intervalBoundary).pending = s.pending := by
  unfold State.intervalBoundary
  try dsimp only
  repeat' split
  all_goals simp

/-! ### Status -/

@[simp] theorem State.startStatus_frame (s : State) :
    (s.startStatus).clock = s.clock ∧ (s.startStatus).pins = s.pins ∧ (s.startStatus).round = s.round ∧ (s.startStatus).peers =
      s.peers ∧ (s.startStatus).share = s.share ∧ (s.startStatus).demand = s.demand ∧ (s.startStatus).line = s.line ∧
      (s.startStatus).conv = s.conv ∧ (s.startStatus).batt = s.batt ∧ (s.startStatus).term = s.term ∧ (s.startStatus).test =
      s.test ∧ (s.startStatus).pending = s.pending := by
  unfold State.startStatus
  try dsimp only
  all_goals simp

@[simp] theorem State.requestStatus_frame (s : State) :
    (s.requestStatus).clock = s.clock ∧ (s.requestStatus).pins = s.pins ∧ (s.requestStatus).round = s.round ∧
      (s.requestStatus).peers = s.peers ∧ (s.requestStatus).share = s.share ∧ (s.requestStatus).demand = s.demand ∧
      (s.requestStatus).line = s.line ∧ (s.requestStatus).conv = s.conv ∧ (s.requestStatus).batt = s.batt ∧ (s.requestStatus).term
      = s.term ∧ (s.requestStatus).test = s.test ∧ (s.requestStatus).pending = s.pending := by
  unfold State.requestStatus
  try dsimp only
  repeat' split
  all_goals simp

@[simp] theorem State.settleRepeat_frame (s : State) :
    (s.settleRepeat).clock = s.clock ∧ (s.settleRepeat).supply = s.supply ∧ (s.settleRepeat).pins = s.pins ∧
      (s.settleRepeat).round = s.round ∧ (s.settleRepeat).peers = s.peers ∧ (s.settleRepeat).share = s.share ∧
      (s.settleRepeat).demand = s.demand ∧ (s.settleRepeat).line = s.line ∧ (s.settleRepeat).conv = s.conv ∧ (s.settleRepeat).batt
      = s.batt ∧ (s.settleRepeat).term = s.term ∧ (s.settleRepeat).test = s.test ∧ (s.settleRepeat).pending = s.pending := by
  unfold State.settleRepeat
  try dsimp only
  repeat' split
  all_goals simp

@[simp] theorem State.clearSleepRequest_frame (s : State) :
    (s.clearSleepRequest).clock = s.clock ∧ (s.clearSleepRequest).pins = s.pins ∧ (s.clearSleepRequest).round = s.round ∧
      (s.clearSleepRequest).peers = s.peers ∧ (s.clearSleepRequest).share = s.share ∧ (s.clearSleepRequest).demand = s.demand ∧
      (s.clearSleepRequest).line = s.line ∧ (s.clearSleepRequest).conv = s.conv ∧ (s.clearSleepRequest).batt = s.batt ∧
      (s.clearSleepRequest).term = s.term ∧ (s.clearSleepRequest).test = s.test ∧ (s.clearSleepRequest).status = s.status ∧
      (s.clearSleepRequest).pending = s.pending := by
  unfold State.clearSleepRequest
  try dsimp only
  all_goals simp

@[simp] theorem State.askSleep_frame (s : State) :
    (s.askSleep).clock = s.clock ∧ (s.askSleep).pins = s.pins ∧ (s.askSleep).round = s.round ∧ (s.askSleep).peers = s.peers ∧
      (s.askSleep).share = s.share ∧ (s.askSleep).demand = s.demand ∧ (s.askSleep).line = s.line ∧ (s.askSleep).conv = s.conv ∧
      (s.askSleep).batt = s.batt ∧ (s.askSleep).term = s.term ∧ (s.askSleep).test = s.test ∧ (s.askSleep).pending = s.pending := by
  unfold State.askSleep
  try dsimp only
  repeat' split
  all_goals simp

/-! ### Line -/

@[simp] theorem State.beginFrame_frame (s : State) (r : Role) :
    (s.beginFrame r).clock = s.clock ∧ (s.beginFrame r).supply = s.supply ∧ (s.beginFrame r).pins = s.pins ∧ (s.beginFrame
      r).round = s.round ∧ (s.beginFrame r).peers = s.peers ∧ (s.beginFrame r).share = s.share ∧ (s.beginFrame r).demand =
      s.demand ∧ (s.beginFrame r).conv = s.conv ∧ (s.beginFrame r).batt = s.batt ∧ (s.beginFrame r).term = s.term ∧ (s.beginFrame
      r).test = s.test ∧ (s.beginFrame r).status = s.status ∧ (s.beginFrame r).pending = s.pending := by
  unfold State.beginFrame
  try dsimp only
  all_goals simp

@[simp] theorem State.offer_frame (s : State) :
    (s.offer).clock = s.clock ∧ (s.offer).supply = s.supply ∧ (s.offer).pins = s.pins ∧ (s.offer).round = s.round ∧
      (s.offer).peers = s.peers ∧ (s.offer).share = s.share ∧ (s.offer).demand = s.demand ∧ (s.offer).conv = s.conv ∧
      (s.offer).batt = s.batt ∧ (s.offer).term = s.term ∧ (s.offer).test = s.test ∧ (s.offer).status = s.status ∧
      (s.offer).pending = s.pending := by
  unfold State.offer
  try dsimp only
  repeat' split
  all_goals simp

@[simp] theorem State.enterOffline_frame (s : State) :
    (s.enterOffline).clock = s.clock ∧ (s.enterOffline).supply = s.supply ∧ (s.enterOffline).pins = s.pins ∧
      (s.enterOffline).round = s.round ∧ (s.enterOffline).peers = s.peers ∧ (s.enterOffline).share = s.share ∧
      (s.enterOffline).demand = s.demand ∧ (s.enterOffline).conv = s.conv ∧ (s.enterOffline).status = s.status ∧
      (s.enterOffline).pending = s.pending := by
  unfold State.enterOffline
  try dsimp only
  repeat' split
  all_goals simp

@[simp] theorem State.readConfinement_frame (s : State) :
    (s.readConfinement).clock = s.clock ∧ (s.readConfinement).supply = s.supply ∧ (s.readConfinement).pins = s.pins ∧
      (s.readConfinement).round = s.round ∧ (s.readConfinement).peers = s.peers ∧ (s.readConfinement).share = s.share ∧
      (s.readConfinement).demand = s.demand ∧ (s.readConfinement).conv = s.conv ∧ (s.readConfinement).status = s.status ∧
      (s.readConfinement).pending = s.pending := by
  unfold State.readConfinement
  try dsimp only
  repeat' split
  all_goals simp

@[simp] theorem State.countError_frame (s : State) (r : Role) :
    (s.countError r).clock = s.clock ∧ (s.countError r).supply = s.supply ∧ (s.countError r).pins = s.pins ∧ (s.countError
      r).round = s.round ∧ (s.countError r).peers = s.peers ∧ (s.countError r).share = s.share ∧ (s.countError r).demand =
      s.demand ∧ (s.countError r).conv = s.conv ∧ (s.countError r).status = s.status ∧ (s.countError r).pending = s.pending := by
  unfold State.countError
  try dsimp only
  repeat' split
  all_goals simp

@[simp] theorem State.countValid_frame (s : State) (own : Bool) :
    (s.countValid own).clock = s.clock ∧ (s.countValid own).supply = s.supply ∧ (s.countValid own).pins = s.pins ∧ (s.countValid
      own).round = s.round ∧ (s.countValid own).peers = s.peers ∧ (s.countValid own).share = s.share ∧ (s.countValid own).demand =
      s.demand ∧ (s.countValid own).conv = s.conv ∧ (s.countValid own).status = s.status ∧ (s.countValid own).pending = s.pending := by
  unfold State.countValid
  try dsimp only
  repeat' split
  all_goals simp

@[simp] theorem State.completeFrame_frame (s : State) :
    (s.completeFrame).clock = s.clock ∧ (s.completeFrame).supply = s.supply ∧ (s.completeFrame).pins = s.pins ∧
      (s.completeFrame).peers = s.peers ∧ (s.completeFrame).share = s.share ∧ (s.completeFrame).demand = s.demand ∧
      (s.completeFrame).conv = s.conv ∧ (s.completeFrame).status = s.status ∧ (s.completeFrame).pending = s.pending := by
  unfold State.completeFrame
  try dsimp only
  repeat' split
  all_goals simp

/-! ### Demand -/

@[simp] theorem State.countCarry_frame (s : State) :
    (s.countCarry).clock = s.clock ∧ (s.countCarry).supply = s.supply ∧ (s.countCarry).pins = s.pins ∧ (s.countCarry).round =
      s.round ∧ (s.countCarry).peers = s.peers ∧ (s.countCarry).share = s.share ∧ (s.countCarry).demand = s.demand ∧
      (s.countCarry).line = s.line ∧ (s.countCarry).conv = s.conv ∧ (s.countCarry).batt = s.batt ∧ (s.countCarry).term = s.term ∧
      (s.countCarry).status = s.status ∧ (s.countCarry).pending = s.pending := by
  unfold State.countCarry
  try dsimp only
  repeat' split
  all_goals simp

@[simp] theorem State.freezeClaims_frame (s : State) :
    (s.freezeClaims).clock = s.clock ∧ (s.freezeClaims).supply = s.supply ∧ (s.freezeClaims).pins = s.pins ∧
      (s.freezeClaims).round = s.round ∧ (s.freezeClaims).peers = s.peers ∧ (s.freezeClaims).share = s.share ∧
      (s.freezeClaims).conv = s.conv ∧ (s.freezeClaims).batt = s.batt ∧ (s.freezeClaims).term = s.term ∧ (s.freezeClaims).test =
      s.test ∧ (s.freezeClaims).status = s.status ∧ (s.freezeClaims).pending = s.pending := by
  unfold State.freezeClaims
  try dsimp only
  all_goals simp

@[simp] theorem State.snapshot_frame (s : State) :
    (s.snapshot).clock = s.clock ∧ (s.snapshot).supply = s.supply ∧ (s.snapshot).pins = s.pins ∧ (s.snapshot).round = s.round ∧
      (s.snapshot).peers = s.peers ∧ (s.snapshot).share = s.share ∧ (s.snapshot).conv = s.conv ∧ (s.snapshot).batt = s.batt ∧
      (s.snapshot).term = s.term ∧ (s.snapshot).status = s.status ∧ (s.snapshot).pending = s.pending := by
  unfold State.snapshot
  try dsimp only
  all_goals simp

/-! ### Share -/

@[simp] theorem State.startShare_frame (s : State) (b : Nat) :
    (s.startShare b).clock = s.clock ∧ (s.startShare b).supply = s.supply ∧ (s.startShare b).pins = s.pins ∧ (s.startShare
      b).round = s.round ∧ (s.startShare b).peers = s.peers ∧ (s.startShare b).demand = s.demand ∧ (s.startShare b).line = s.line
      ∧ (s.startShare b).conv = s.conv ∧ (s.startShare b).batt = s.batt ∧ (s.startShare b).term = s.term ∧ (s.startShare b).test =
      s.test ∧ (s.startShare b).status = s.status ∧ (s.startShare b).pending = s.pending := by
  unfold State.startShare
  try dsimp only
  all_goals simp

@[simp] theorem State.finishShare_frame (s : State) :
    (s.finishShare).clock = s.clock ∧ (s.finishShare).supply = s.supply ∧ (s.finishShare).pins = s.pins ∧ (s.finishShare).round =
      s.round ∧ (s.finishShare).peers = s.peers ∧ (s.finishShare).demand = s.demand ∧ (s.finishShare).line = s.line ∧
      (s.finishShare).conv = s.conv ∧ (s.finishShare).batt = s.batt ∧ (s.finishShare).term = s.term ∧ (s.finishShare).test =
      s.test ∧ (s.finishShare).status = s.status ∧ (s.finishShare).pending = s.pending := by
  unfold State.finishShare
  try dsimp only
  all_goals simp

/-! ### Round -/

@[simp] theorem State.rearm_frame (s : State) :
    (s.rearm).clock = s.clock ∧ (s.rearm).supply = s.supply ∧ (s.rearm).pins = s.pins ∧ (s.rearm).peers = s.peers ∧
      (s.rearm).share = s.share ∧ (s.rearm).demand = s.demand ∧ (s.rearm).line = s.line ∧ (s.rearm).conv = s.conv ∧ (s.rearm).batt
      = s.batt ∧ (s.rearm).term = s.term ∧ (s.rearm).test = s.test ∧ (s.rearm).status = s.status ∧ (s.rearm).pending = s.pending := by
  unfold State.rearm
  try dsimp only
  all_goals simp

@[simp] theorem State.handleExpiry_frame (s : State) :
    (s.handleExpiry).clock = s.clock ∧ (s.handleExpiry).supply = s.supply ∧ (s.handleExpiry).pins = s.pins ∧
      (s.handleExpiry).peers = s.peers ∧ (s.handleExpiry).share = s.share ∧ (s.handleExpiry).demand = s.demand ∧
      (s.handleExpiry).conv = s.conv ∧ (s.handleExpiry).batt = s.batt ∧ (s.handleExpiry).term = s.term ∧ (s.handleExpiry).test =
      s.test ∧ (s.handleExpiry).status = s.status ∧ (s.handleExpiry).pending = s.pending := by
  unfold State.handleExpiry
  try dsimp only
  repeat' split
  all_goals simp

@[simp] theorem State.closeRound_frame (s : State) :
    (s.closeRound).clock = s.clock ∧ (s.closeRound).supply = s.supply ∧ (s.closeRound).pins = s.pins ∧ (s.closeRound).term =
      s.term ∧ (s.closeRound).test = s.test ∧ (s.closeRound).status = s.status ∧ (s.closeRound).pending = s.pending := by
  unfold State.closeRound
  try dsimp only
  all_goals simp

@[simp] theorem State.frameEnded_frame (s : State) :
    (s.frameEnded).clock = s.clock ∧ (s.frameEnded).supply = s.supply ∧ (s.frameEnded).pins = s.pins ∧ (s.frameEnded).term =
      s.term ∧ (s.frameEnded).test = s.test ∧ (s.frameEnded).status = s.status ∧ (s.frameEnded).pending = s.pending := by
  unfold State.frameEnded
  try dsimp only
  repeat' split
  all_goals simp

@[simp] theorem State.applyLowering_frame (s : State) :
    (s.applyLowering).clock = s.clock ∧ (s.applyLowering).supply = s.supply ∧ (s.applyLowering).pins = s.pins ∧
      (s.applyLowering).round = s.round ∧ (s.applyLowering).peers = s.peers ∧ (s.applyLowering).demand = s.demand ∧
      (s.applyLowering).line = s.line ∧ (s.applyLowering).status = s.status ∧ (s.applyLowering).pending = s.pending := by
  unfold State.applyLowering
  try dsimp only
  repeat' split
  all_goals simp

@[simp] theorem State.startTest_frame (s : State) :
    (s.startTest).clock = s.clock ∧ (s.startTest).supply = s.supply ∧ (s.startTest).pins = s.pins ∧ (s.startTest).round = s.round
      ∧ (s.startTest).peers = s.peers ∧ (s.startTest).share = s.share ∧ (s.startTest).demand = s.demand ∧ (s.startTest).line =
      s.line ∧ (s.startTest).conv = s.conv ∧ (s.startTest).term = s.term ∧ (s.startTest).status = s.status ∧ (s.startTest).pending
      = s.pending := by
  unfold State.startTest
  try dsimp only
  repeat' split
  all_goals simp

@[simp] theorem State.applyRaising_frame (s : State) :
    (s.applyRaising).clock = s.clock ∧ (s.applyRaising).pins = s.pins ∧ (s.applyRaising).round = s.round ∧ (s.applyRaising).peers
      = s.peers ∧ (s.applyRaising).demand = s.demand ∧ (s.applyRaising).line = s.line ∧ (s.applyRaising).pending = s.pending := by
  unfold State.applyRaising
  try dsimp only
  all_goals simp

@[simp] theorem State.runPoints_frame (s : State) :
    (s.runPoints).clock = s.clock ∧ (s.runPoints).pins = s.pins ∧ (s.runPoints).peers = s.peers ∧ (s.runPoints).demand = s.demand
      ∧ (s.runPoints).line = s.line ∧ (s.runPoints).pending = s.pending := by
  unfold State.runPoints
  try dsimp only
  repeat' split
  all_goals simp

@[simp] theorem State.clearStanding_frame (s : State) :
    (s.clearStanding).clock = s.clock ∧ (s.clearStanding).pins = s.pins ∧ (s.clearStanding).peers = s.peers ∧
      (s.clearStanding).line = s.line ∧ (s.clearStanding).status = s.status ∧ (s.clearStanding).pending = s.pending := by
  unfold State.clearStanding
  try dsimp only
  all_goals simp

@[simp] theorem State.enterMuted_frame (s : State) :
    (s.enterMuted).clock = s.clock ∧ (s.enterMuted).pins = s.pins ∧ (s.enterMuted).status = s.status ∧ (s.enterMuted).pending =
      s.pending := by
  unfold State.enterMuted
  try dsimp only
  all_goals simp

@[simp] theorem State.settlePrevious_frame (s : State) :
    (s.settlePrevious).clock = s.clock ∧ (s.settlePrevious).supply = s.supply ∧ (s.settlePrevious).pins = s.pins ∧
      (s.settlePrevious).status = s.status ∧ (s.settlePrevious).pending = s.pending := by
  unfold State.settlePrevious
  try dsimp only
  repeat' split
  all_goals simp

@[simp] theorem State.realign_frame (s : State) :
    (s.realign).clock = s.clock ∧ (s.realign).supply = s.supply ∧ (s.realign).pins = s.pins ∧ (s.realign).round = s.round ∧
      (s.realign).peers = s.peers ∧ (s.realign).share = s.share ∧ (s.realign).demand = s.demand ∧ (s.realign).line = s.line ∧
      (s.realign).batt = s.batt ∧ (s.realign).term = s.term ∧ (s.realign).test = s.test ∧ (s.realign).status = s.status ∧
      (s.realign).pending = s.pending := by
  unfold State.realign
  try dsimp only
  repeat' split
  all_goals simp

@[simp] theorem State.takeReference_frame (s : State) (o : Opening) :
    (s.takeReference o).clock = s.clock ∧ (s.takeReference o).pins = s.pins ∧ (s.takeReference o).status = s.status ∧
      (s.takeReference o).pending = s.pending := by
  unfold State.takeReference
  try dsimp only
  repeat' split
  all_goals simp

@[simp] theorem State.wakeUp_frame (s : State) :
    (s.wakeUp).clock = s.clock ∧ (s.wakeUp).pins = s.pins ∧ (s.wakeUp).round = s.round ∧ (s.wakeUp).peers = s.peers ∧
      (s.wakeUp).share = s.share ∧ (s.wakeUp).demand = s.demand ∧ (s.wakeUp).conv = s.conv ∧ (s.wakeUp).term = s.term ∧
      (s.wakeUp).test = s.test ∧ (s.wakeUp).pending = s.pending := by
  unfold State.wakeUp
  try dsimp only
  repeat' split
  all_goals simp

end Sys2Proof.Machine
end

