-- ==== Sys2Proof/Laws/State.lean ====
section
/-! SUPPORT. The state as a record: two states are equal when their blocks are, and what each named update of a block does to each field. -/

namespace Sys2Proof.Machine

/-- Two states whose blocks are equal are equal. -/
theorem State.eq_of_blocks {s t : State} (h0 : s.clock = t.clock) (h1 : s.supply = t.supply) (h2 : s.pins = t.pins)
    (h3 : s.round = t.round) (h4 : s.peers = t.peers) (h5 : s.share = t.share) (h6 : s.demand = t.demand)
    (h7 : s.line = t.line) (h8 : s.conv = t.conv) (h9 : s.batt = t.batt) (h10 : s.term = t.term) (h11 : s.test = t.test)
    (h12 : s.status = t.status) (h13 : s.pending = t.pending) : s = t := by
  cases s; cases t; simp_all

/-! ### The queue of commands -/

@[simp] theorem State.withPending_pending (s : State) (q : List Instr) : (s.withPending q).pending = q := rfl
@[simp] theorem State.withPending_clock (s : State) (q : List Instr) : (s.withPending q).clock = s.clock := rfl
@[simp] theorem State.withPending_supply (s : State) (q : List Instr) : (s.withPending q).supply = s.supply := rfl
@[simp] theorem State.withPending_pins (s : State) (q : List Instr) : (s.withPending q).pins = s.pins := rfl
@[simp] theorem State.withPending_round (s : State) (q : List Instr) : (s.withPending q).round = s.round := rfl
@[simp] theorem State.withPending_peers (s : State) (q : List Instr) : (s.withPending q).peers = s.peers := rfl
@[simp] theorem State.withPending_share (s : State) (q : List Instr) : (s.withPending q).share = s.share := rfl
@[simp] theorem State.withPending_demand (s : State) (q : List Instr) : (s.withPending q).demand = s.demand := rfl
@[simp] theorem State.withPending_line (s : State) (q : List Instr) : (s.withPending q).line = s.line := rfl
@[simp] theorem State.withPending_conv (s : State) (q : List Instr) : (s.withPending q).conv = s.conv := rfl
@[simp] theorem State.withPending_batt (s : State) (q : List Instr) : (s.withPending q).batt = s.batt := rfl
@[simp] theorem State.withPending_term (s : State) (q : List Instr) : (s.withPending q).term = s.term := rfl
@[simp] theorem State.withPending_test (s : State) (q : List Instr) : (s.withPending q).test = s.test := rfl
@[simp] theorem State.withPending_status (s : State) (q : List Instr) : (s.withPending q).status = s.status := rfl

/-! ### The test unit's updates -/

@[simp] theorem State.setDue_schedule (s : State) (d : Option Time) : (s.setDue d).test.schedule = d := rfl
@[simp] theorem State.setDue_due (s : State) (d : Option Time) : (s.setDue d).test.due = false := rfl
@[simp] theorem State.setDue_carry (s : State) (d : Option Time) : (s.setDue d).test.carry = s.test.carry := rfl
@[simp] theorem State.setDue_carryCount (s : State) (d : Option Time) : (s.setDue d).test.carryCount = s.test.carryCount := rfl
@[simp] theorem State.setDue_context (s : State) (d : Option Time) : (s.setDue d).test.context = s.test.context := rfl
@[simp] theorem State.setDue_inHand (s : State) (d : Option Time) : (s.setDue d).test.inHand = s.test.inHand := rfl
@[simp] theorem State.setDue_wakeCheck (s : State) (d : Option Time) : (s.setDue d).test.wakeCheck = s.test.wakeCheck := rfl
@[simp] theorem State.setDue_gate (s : State) (d : Option Time) : (s.setDue d).test.gate = s.test.gate := rfl
@[simp] theorem State.setDue_results (s : State) (d : Option Time) : (s.setDue d).test.results = s.test.results := rfl

section
variable (s : State) (k : ResultKind) (v : Verdict) (x : Option Nat) (b : Band)

@[simp] theorem State.addResult_results : (s.addResult k v x b).test.results
    = ({ kind := k, verdict := v, value := x, round := s.round.number, band := b } :: s.test.results).take 4 := rfl
@[simp] theorem State.addResult_schedule : (s.addResult k v x b).test.schedule = s.test.schedule := rfl
@[simp] theorem State.addResult_due : (s.addResult k v x b).test.due = s.test.due := rfl
@[simp] theorem State.addResult_carry : (s.addResult k v x b).test.carry = s.test.carry := rfl
@[simp] theorem State.addResult_carryCount : (s.addResult k v x b).test.carryCount = s.test.carryCount := rfl
@[simp] theorem State.addResult_context : (s.addResult k v x b).test.context = s.test.context := rfl
@[simp] theorem State.addResult_inHand : (s.addResult k v x b).test.inHand = s.test.inHand := rfl
@[simp] theorem State.addResult_wakeCheck : (s.addResult k v x b).test.wakeCheck = s.test.wakeCheck := rfl
@[simp] theorem State.addResult_gate : (s.addResult k v x b).test.gate = s.test.gate := rfl
end

@[simp] theorem State.closeWakeCheck_test (s : State) : s.closeWakeCheck.test = { s.test with wakeCheck := none } := rfl
@[simp] theorem State.beginWakeCheck_test (s : State) : s.beginWakeCheck.test = { s.test with wakeCheck := some s.batt.band } := rfl

/-! ### The terminal interface's and the line controller's updates -/

@[simp] theorem State.enterHold_term (s : State) :
    s.enterHold.term = { s.term with mode := .hold, idleTimer := none, bootTimer := none } := rfl
@[simp] theorem State.beginFrame_line (s : State) (r : Role) : (s.beginFrame r).line = { s.line with
    phase := .frame, role := r, driver := if r = .transmitter then .dominant else .recessive, bitPos := some {}, seen := .dominant
    gapBits := 0, frameStart := s.clock, rxBits := [] } := rfl
@[simp] theorem State.clearSleepRequest_supply (s : State) :
    s.clearSleepRequest.supply = { s.supply with sleepRequest := false, sleepFrame := .none } := rfl
@[simp] theorem State.rearm_round (s : State) :
    s.rearm.round = { s.round with timer := some (s.clock + period s.round.tempo + s.skew) } := rfl

@[simp] theorem LineState.withQueue_queue (l : LineState) (q : List Frame) : (l.withQueue q).queue = q := rfl
@[simp] theorem LineState.dropTo_queue (l : LineState) (q : List Frame) : (l.dropTo q).queue = q := rfl
@[simp] theorem LineState.clearQueue_queue (l : LineState) : l.clearQueue.queue = [] := rfl

/-! ### Targets depend on the round, the grants, the own record and the straps alone -/

theorem State.feedTarget_congr {s t : State} (h1 : s.round = t.round) (h2 : s.peers = t.peers) (h3 : s.share = t.share)
    (h4 : s.supply.strapWord = t.supply.strapWord) : s.feedTarget = t.feedTarget := by
  simp [State.feedTarget, State.drawsByGrant, State.ownRecordPresent, State.address, h1, h2, h3, h4]

theorem State.chargeTarget_congr {s t : State} (h1 : s.round = t.round) (h2 : s.peers = t.peers) (h3 : s.share = t.share)
    (h4 : s.supply.strapWord = t.supply.strapWord) : s.chargeTarget = t.chargeTarget := by
  simp [State.chargeTarget, State.drawsByGrant, State.ownRecordPresent, State.address, State.ceiling,
    State.feedTarget_congr h1 h2 h3 h4, h1, h2, h3, h4]

end Sys2Proof.Machine
end

