-- ==== Sys2Proof/Laws/Ops.lean ====
section
/-! SUPPORT. What each shared operation does to the blocks it touches, said once. -/

namespace Sys2Proof.Machine

/-! ### Battery switches -/

/-- The charge switch's conditions read the mains state, the band, the charge setpoint and whether a test is in flight. -/
theorem State.chargeCloses_congr {s t : State} (h1 : s.supply.mains = t.supply.mains) (h2 : s.batt.band = t.batt.band)
    (h3 : s.conv.chargeSetpoint = t.conv.chargeSetpoint) (h4 : s.test.context = t.test.context) :
    s.chargeCloses = t.chargeCloses := by
  simp [State.chargeCloses, State.chargePath, State.testInFlight, h1, h2, h3, h4]

/-- Re-examining the charge switch touches nothing else of the battery monitor (R131, R132). -/
@[simp] theorem State.examineCharge_batt (s : State) : s.examineCharge.batt = { s.batt with
    charge := if s.chargeCloses then .closed else .opened
    conduction := if s.chargeCloses then (if s.batt.charge = .closed then s.batt.conduction else 0) else 0
    chargeLimit := s.chargeLimitNow } := by
  unfold State.examineCharge
  split <;> simp_all

/-- Releasing the band hold (R129). -/
@[simp] theorem State.releaseHold_batt (s : State) : s.releaseHold.batt
    = if s.batt.hold then { s.batt with hold := false, window := [], evalCount := 0 } else s.batt := by
  unfold State.releaseHold
  split <;> rfl

/-! ### Tests -/

/-- Cutoff off (R145) opens or closes a wake check and adds its record; nothing else of the test unit changes. -/
@[simp] theorem State.cutoffOff_test (s : State) : s.cutoffOff.test.context = s.test.context ∧ s.cutoffOff.test.gate = s.test.gate ∧ s.cutoffOff.test.carry = s.test.carry ∧ s.cutoffOff.test.carryCount = s.test.carryCount
    ∧ s.cutoffOff.test.schedule = s.test.schedule ∧ s.cutoffOff.test.due = s.test.due ∧ s.cutoffOff.test.inHand = s.test.inHand := by
  unfold State.cutoffOff
  try dsimp only
  repeat' split
  all_goals simp

/-- Forced hold (R144) opens or closes a wake check and adds its record; nothing else of the test unit changes. -/
@[simp] theorem State.forcedHold_test (s : State) : s.forcedHold.test.context = s.test.context ∧ s.forcedHold.test.gate = s.test.gate ∧ s.forcedHold.test.carry = s.test.carry ∧ s.forcedHold.test.carryCount = s.test.carryCount
    ∧ s.forcedHold.test.schedule = s.test.schedule ∧ s.forcedHold.test.due = s.test.due ∧ s.forcedHold.test.inHand = s.test.inHand := by
  unfold State.forcedHold
  try dsimp only
  repeat' split
  all_goals simp

/-- The tests of R144 and R145 opens or closes a wake check and adds its record; nothing else of the test unit changes. -/
@[simp] theorem State.powerTests_test (s : State) : s.powerTests.test.context = s.test.context ∧ s.powerTests.test.gate = s.test.gate ∧ s.powerTests.test.carry = s.test.carry ∧ s.powerTests.test.carryCount = s.test.carryCount
    ∧ s.powerTests.test.schedule = s.test.schedule ∧ s.powerTests.test.due = s.test.due ∧ s.powerTests.test.inHand = s.test.inHand := by
  unfold State.powerTests
  try dsimp only
  all_goals simp

/-- Entering ACTIVE (R140) opens or closes a wake check and adds its record; nothing else of the test unit changes. -/
@[simp] theorem State.enterActive_test (s : State) (b : Time) : (s.enterActive b).test.context = s.test.context ∧ (s.enterActive b).test.gate = s.test.gate ∧ (s.enterActive b).test.carry = s.test.carry ∧ (s.enterActive b).test.carryCount = s.test.carryCount
    ∧ (s.enterActive b).test.schedule = s.test.schedule ∧ (s.enterActive b).test.due = s.test.due ∧ (s.enterActive b).test.inHand = s.test.inHand := by
  unfold State.enterActive
  try dsimp only
  repeat' split
  all_goals simp

/-- A boot that finds its ready line asserted (R140) opens or closes a wake check and adds its record; nothing else of the test unit changes. -/
@[simp] theorem State.bootReady_test (s : State) : s.bootReady.test.context = s.test.context ∧ s.bootReady.test.gate = s.test.gate ∧ s.bootReady.test.carry = s.test.carry ∧ s.bootReady.test.carryCount = s.test.carryCount
    ∧ s.bootReady.test.schedule = s.test.schedule ∧ s.bootReady.test.due = s.test.due ∧ s.bootReady.test.inHand = s.test.inHand := by
  unfold State.bootReady
  try dsimp only
  repeat' split
  all_goals simp

/-- Entering BOOTING (R135) opens or closes a wake check and adds its record; nothing else of the test unit changes. -/
@[simp] theorem State.enterBooting_test (s : State) : s.enterBooting.test.context = s.test.context ∧ s.enterBooting.test.gate = s.test.gate ∧ s.enterBooting.test.carry = s.test.carry ∧ s.enterBooting.test.carryCount = s.test.carryCount
    ∧ s.enterBooting.test.schedule = s.test.schedule ∧ s.enterBooting.test.due = s.test.due ∧ s.enterBooting.test.inHand = s.test.inHand := by
  unfold State.enterBooting
  try dsimp only
  all_goals simp

/-- A wake made (R139) opens or closes a wake check and adds its record; nothing else of the test unit changes. -/
@[simp] theorem State.makeWake_test (s : State) : s.makeWake.test.context = s.test.context ∧ s.makeWake.test.gate = s.test.gate ∧ s.makeWake.test.carry = s.test.carry ∧ s.makeWake.test.carryCount = s.test.carryCount
    ∧ s.makeWake.test.schedule = s.test.schedule ∧ s.makeWake.test.due = s.test.due ∧ s.makeWake.test.inHand = s.test.inHand := by
  unfold State.makeWake
  try dsimp only
  repeat' split
  all_goals simp

/-- A pending wake gated again (R139) opens or closes a wake check and adds its record; nothing else of the test unit changes. -/
@[simp] theorem State.regateWake_test (s : State) : s.regateWake.test.context = s.test.context ∧ s.regateWake.test.gate = s.test.gate ∧ s.regateWake.test.carry = s.test.carry ∧ s.regateWake.test.carryCount = s.test.carryCount
    ∧ s.regateWake.test.schedule = s.test.schedule ∧ s.regateWake.test.due = s.test.due ∧ s.regateWake.test.inHand = s.test.inHand := by
  unfold State.regateWake
  try dsimp only
  repeat' split
  all_goals simp

/-- The end of a test clears the context, the gate, the carry request and the carry count, and leaves schedule, due flag and result in hand
(R154 to R156). -/
theorem State.endTest_test (s : State) : s.endTest.test.context = none ∧ s.endTest.test.gate = false
    ∧ s.endTest.test.carry = false ∧ s.endTest.test.carryCount = 0 ∧ s.endTest.test.schedule = s.test.schedule
    ∧ s.endTest.test.due = s.test.due ∧ s.endTest.test.inHand = s.test.inHand := by
  unfold State.endTest State.terminalTestEnded
  dsimp only
  split <;> simp

/-- The end of a test releases the band hold and re-examines the charge switch; the band and the discharge switch stay. -/
theorem State.endTest_batt (s : State) : s.endTest.batt.hold = false ∧ s.endTest.batt.band = s.batt.band
    ∧ s.endTest.batt.discharge = s.batt.discharge ∧ s.endTest.batt.window = (if s.batt.hold then [] else s.batt.window)
    ∧ s.endTest.batt.evalCount = (if s.batt.hold then 0 else s.batt.evalCount) := by
  cases h : s.batt.hold <;> simp [State.endTest, h]

/-- An abort leaves no test in flight (R156). -/
theorem State.abortTestDue_context (s : State) (v : Verdict) (d : Option Time) : (s.abortTestDue v d).test.context = none := by
  unfold State.abortTestDue
  split
  · assumption
  · exact (State.endTest_test _).1

theorem State.abortTest_context (s : State) (v : Verdict) : (s.abortTest v).test.context = none :=
  State.abortTestDue_context s v _

/-- With no test in flight an abort does nothing (R156). -/
theorem State.abortTest_of_none (s : State) (v : Verdict) (h : s.test.context = none) : s.abortTest v = s := by
  simp [State.abortTest, State.abortTestDue, h]

/-- Raising the carry request touches nothing but the request (R151). -/
theorem State.raiseCarry_test (s : State) : s.raiseCarry.test = { s.test with carry := s.test.carry || s.carryDue } := by
  unfold State.raiseCarry
  cases h : s.carryDue <;> simp

/-! ### Converter -/

/-- Writing the setpoints (R116). -/
@[simp] theorem State.setSetpoints_conv (s : State) (f c : Nat) : (s.setSetpoints f c).conv = { s.conv with
    feedSetpoint := f, chargeSetpoint := c, command := if f + c = 0 then 0 else s.conv.command } := by
  unfold State.setSetpoints
  dsimp only
  split <;> simp

/-- The converter stops: its state, its gates off, its setpoints 0 (R114). -/
theorem State.converterStops_conv (s : State) (m : ConverterMode) : (s.converterStops m).conv.mode = m
    ∧ (s.converterStops m).conv.gateHigh = false ∧ (s.converterStops m).conv.gateLow = false
    ∧ (s.converterStops m).conv.feedSetpoint = 0 ∧ (s.converterStops m).conv.chargeSetpoint = 0
    ∧ (s.converterStops m).conv.latchMark = s.conv.latchMark ∧ (s.converterStops m).conv.latchCount = s.conv.latchCount
    ∧ (s.converterStops m).conv.window = s.conv.window ∧ (s.converterStops m).conv.timeBase = s.conv.timeBase
    ∧ (s.converterStops m).conv.intervalTimer = s.conv.intervalTimer := by
  unfold State.converterStops
  dsimp only
  simp only [State.setSetpoints_conv, State.gatesOff]
  split <;> simp

/-! ### The end of a command -/

/-- A command of a running part is its effect, then what the supply controller does with a sleep request (R164). -/
theorem whenRunning_of_running (f : State → State) {s : State} (h : s.supply.power = .running) : whenRunning f s = (f s).askSleep := by
  simp [whenRunning, h]

/-- A command in reset does nothing (log 2). -/
theorem whenRunning_of_reset (f : State → State) {s : State} (h : s.supply.power = .reset) : whenRunning f s = s := by
  simp [whenRunning, h]

/-- Without a sleep request the end of a command does nothing. -/
theorem State.askSleep_of_no_request {s : State} (h : s.supply.sleepRequest = false) : s.askSleep = s := by
  simp [State.askSleep, h]

/-- A request that cannot be followed loses its sleep frame and stands (R164, log 22). -/
theorem State.askSleep_of_barred {s : State} (h : s.supply.sleepRequest = true) (ha : s.sleepAllowed = false) :
    s.askSleep = { s with supply := { s.supply with sleepFrame := .none } } := by
  simp [State.askSleep, h, ha]

/-- A sleep frame asked for is kept while every condition holds. -/
theorem State.askSleep_of_asked {s : State} (ha : s.sleepAllowed = true) (hf : s.supply.sleepFrame ≠ .none) : s.askSleep = s := by
  unfold State.askSleep
  split
  · cases hs : s.supply.sleepFrame <;> simp_all
  · rfl

/-- Of the supply controller the end of a command changes the sleep frame alone. -/
theorem State.askSleep_supply (s : State) :
    s.askSleep.supply = { s.supply with sleepFrame := s.askSleep.supply.sleepFrame } := by
  unfold State.askSleep State.requestStatus State.startStatus
  repeat' split
  all_goals simp

/-! ### The reciprocal stage -/

/-- All that a request for the stage can do (R48): take a FREE stage, take over one the test unit took at this moment, or wait. -/
theorem ShareState.askStage_cases (h : ShareState) (u : StageUser) (now : Time) :
    (h.stage = none ∧ h.askStage u now = { h with stage := some u, stageTaken := some now })
      ∨ (u = .share ∧ h.stage = some .test ∧ h.stageTaken = some now
          ∧ h.askStage u now = { h with stage := some .share, waiting := some .test })
      ∨ (h.stage ≠ none ∧ h.askStage u now = { h with waiting := some u }) := by
  unfold ShareState.askStage
  split
  · exact .inl ⟨‹_›, rfl⟩
  · rename_i v hv
    split
    · rename_i hc
      exact .inr (.inl ⟨hc.1, hc.2.1 ▸ hv, hc.2.2, rfl⟩)
    · exact .inr (.inr ⟨by simp [hv], rfl⟩)

/-- The stage given back goes to the request that waits (R48). -/
@[simp] theorem ShareState.releaseStage_stage (h : ShareState) : h.releaseStage.stage = h.waiting := rfl
@[simp] theorem ShareState.releaseStage_waiting (h : ShareState) : h.releaseStage.waiting = none := rfl
@[simp] theorem ShareState.releaseStage_stageTaken (h : ShareState) : h.releaseStage.stageTaken = none := rfl

/-! ### Wake -/

/-- After a wake the part is awake, and a part that was asleep has been woken at this moment (R165). -/
theorem State.wakeUp_supply (s : State) : s.wakeUp.supply.asleep = false
    ∧ (s.supply.asleep = true → s.wakeUp.supply.wokeAt = some s.clock ∧ s.wakeUp.supply.sleepRequest = false) := by
  unfold State.wakeUp
  cases h : s.supply.asleep <;> simp [h]

/-- A wake from sleep leaves the line integrating with a recessive driver and nothing driven (R72, R83, R105). -/
theorem State.wakeUp_line {s : State} (h : s.supply.asleep = true) : s.wakeUp.line = { s.line with
    phase := .integrating, role := .none, driver := .recessive, driveTime := 0, recessiveRun := 0, gapBits := 0, bitPos := none
    rxBits := [] } := by
  simp [State.wakeUp, h]

/-- A part awake is left as it is. -/
theorem State.wakeUp_of_awake {s : State} (h : s.supply.asleep = false) : s.wakeUp = s := by
  simp [State.wakeUp, h]

/-! ### The boot time -/

/-- A boot time handed over lies in R157's range. -/
theorem bootTenths_le (began now : Time) : bootTenths began now ≤ 1199 := Nat.min_le_left _ _

/-- Up to 1,199 tenths it is the time since the entry into BOOTING, rounded down (R140). -/
theorem bootTenths_of_lt {began now : Time} (h : (now - began) / 320000 ≤ 1199) : bootTenths began now = (now - began) / 320000 :=
  Nat.min_eq_right h

/-! ### Offering -/

/-- The head frame may be offered on R89's conditions, a notice on R11's too. -/
theorem State.mayOffer_head {s : State} (h : s.mayOffer = true) : s.supply.oscillator = .stable ∧ s.round.participation = .member
    ∧ s.line.confinement ≠ .offline ∧ s.line.stuck = false ∧ s.line.extraWait = .none ∧ s.line.queue ≠ [] := by
  unfold State.mayOffer State.oscStable at h
  cases hq : s.line.queue <;> simp_all

/-! ### The demand lines -/

/-- The level of the two demand lines, high line first (R136). -/
theorem demandLevelOf_eq (l : DemandLines) : demandLevelOf l
    = if l.high then (if l.low then .emergency else .session) else if l.low then .wanted else .idle := by
  cases l with
  | mk high low => cases high <;> cases low <;> rfl

/-! ### The driver and the repeat timer -/

/-- A standing fault takes the driver to dominant and touches nothing else (R105). -/
@[simp] theorem State.holdDriver_eq (s : State) : s.holdDriver
    = { s with line := { s.line with driver := if s.driverHeld then .dominant else s.line.driver } } := by
  unfold State.holdDriver
  split <;> rfl

/-- OFFLINE, LISTEN and the line-stuck flag keep the next bit recessive, a fault or not (R73, R103, R106). -/
theorem State.nextDrive_of_barred {s : State} (h : s.mayDrive = false) : s.nextDrive = .recessive := by
  simp [State.nextDrive, State.driverHeld, h]

/-- The repeat timer runs exactly under its conditions once it is settled (R167). -/
theorem State.settleRepeat_runs (s : State) : s.settleRepeat.status.repeatTimer.isSome = s.repeatRuns := by
  unfold State.settleRepeat
  split
  · split <;> simp_all
  · simp_all

/-- A timer that runs under its conditions is left as it is (R167). -/
theorem State.settleRepeat_of_running {s : State} (h : s.repeatRuns = true) (h' : s.status.repeatTimer.isSome = true) :
    s.settleRepeat = s := by
  simp [State.settleRepeat, h, h']

/-! ### Pending wakes -/

/-- A boot whose ready line is not asserted goes on (R140). -/
theorem State.bootReady_of_not_ready {s : State} (h : s.pins.ready = false) : s.bootReady = s := by
  unfold State.bootReady
  split <;> simp [h]

/-- A wake made with the ready line not asserted is a boot from this moment, and a wake check exactly from HOLD (R139, R140). -/
theorem State.makeWake_of_not_ready {s : State} (h : s.pins.ready = false) : s.makeWake = { s with
    term := { s.term with
      mode := .booting, bootTimer := some s.clock, idleTimer := none, retryWait := none, wakePending := false
      wakeMark := decide (s.term.mode = .hold) }
    test := { s.test with wakeCheck := if s.term.mode = .hold then some s.batt.band else s.test.wakeCheck } } := by
  unfold State.makeWake
  split <;> simp_all [State.enterBooting, State.bootReady_of_not_ready, State.beginWakeCheck]

/-- The gating makes a pending wake of HOLD or OFF where it holds, and else leaves everything (R139). -/
theorem State.regateWake_eq (s : State) : s.regateWake
    = if s.term.wakePending = true ∧ s.acting = true ∧ (s.term.mode = .hold ∨ s.term.mode = .off) ∧ s.wakeAllowed = true then s.makeWake
      else s := by
  simp only [State.regateWake, Bool.and_eq_true, Bool.or_eq_true, decide_eq_true_eq, and_assoc]

end Sys2Proof.Machine
end

