-- ==== Sys2Proof/Laws/PerInstr.lean ====
section
/-! SUPPORT. What is said of every command, one lemma per constructor: a command is ill formed only through the ranges of the samples it
brings (R111) or of the riser voltage a start reads (R108). -/

namespace Sys2Proof.Laws.WellFormed

/-- An ill-formed command is a measurement event with a sample out of range, or a start with its riser voltage out of range. -/
def Statement (i : Instr) : Prop :=
  i.wf = false → (∃ m, i = .measurementEvent m ∧ m.wf = false) ∨ ∃ p, i = .start p ∧ 6553 < p.riser

theorem supplyDipReset : Statement .supplyDipReset :=
  fun h => Bool.noConfusion (show true = false from h)

theorem retainedStoreLoss : Statement .retainedStoreLoss :=
  fun h => Bool.noConfusion (show true = false from h)

theorem start (pins : StartPins) : Statement (.start pins) :=
  fun h => .inr ⟨pins, rfl, by simpa [Instr.wf, StartPins.wf] using h⟩

theorem fastOscillatorStable : Statement .fastOscillatorStable :=
  fun h => Bool.noConfusion (show true = false from h)

theorem mainsSenseChange (level : MainsState) : Statement (.mainsSenseChange level) :=
  fun h => Bool.noConfusion (show true = false from h)

theorem mainsFail : Statement .mainsFail :=
  fun h => Bool.noConfusion (show true = false from h)

theorem mainsReturn : Statement .mainsReturn :=
  fun h => Bool.noConfusion (show true = false from h)

theorem openingFrame (o : Opening) : Statement (.openingFrame o) :=
  fun h => Bool.noConfusion (show true = false from h)

theorem notice (n : Notice) : Statement (.notice n) :=
  fun h => Bool.noConfusion (show true = false from h)

theorem roundTimerExpiry : Statement .roundTimerExpiry :=
  fun h => Bool.noConfusion (show true = false from h)

theorem joinTimerExpiry : Statement .joinTimerExpiry :=
  fun h => Bool.noConfusion (show true = false from h)

theorem roundTimerLead : Statement .roundTimerLead :=
  fun h => Bool.noConfusion (show true = false from h)

theorem lineEdgeWake : Statement .lineEdgeWake :=
  fun h => Bool.noConfusion (show true = false from h)

theorem closeEvent : Statement .closeEvent :=
  fun h => Bool.noConfusion (show true = false from h)

theorem shareComputationComplete : Statement .shareComputationComplete :=
  fun h => Bool.noConfusion (show true = false from h)

theorem loweringPoint : Statement .loweringPoint :=
  fun h => Bool.noConfusion (show true = false from h)

theorem raisingPoint : Statement .raisingPoint :=
  fun h => Bool.noConfusion (show true = false from h)

theorem mutedReportPoint : Statement .mutedReportPoint :=
  fun h => Bool.noConfusion (show true = false from h)

theorem roundAgeLimit : Statement .roundAgeLimit :=
  fun h => Bool.noConfusion (show true = false from h)

theorem lineIdle : Statement .lineIdle :=
  fun h => Bool.noConfusion (show true = false from h)

theorem loseArbitration : Statement .loseArbitration :=
  fun h => Bool.noConfusion (show true = false from h)

theorem frameError : Statement .frameError :=
  fun h => Bool.noConfusion (show true = false from h)

theorem errorDelimiterEnd : Statement .errorDelimiterEnd :=
  fun h => Bool.noConfusion (show true = false from h)

theorem extraWaitExpiry : Statement .extraWaitExpiry :=
  fun h => Bool.noConfusion (show true = false from h)

theorem dominantTimeout : Statement .dominantTimeout :=
  fun h => Bool.noConfusion (show true = false from h)

theorem lineStuck : Statement .lineStuck :=
  fun h => Bool.noConfusion (show true = false from h)

theorem lineStuckClear : Statement .lineStuckClear :=
  fun h => Bool.noConfusion (show true = false from h)

theorem returnFromOffline : Statement .returnFromOffline :=
  fun h => Bool.noConfusion (show true = false from h)

theorem measurementEvent (m : Samples) : Statement (.measurementEvent m) :=
  fun h => .inl ⟨m, rfl, h⟩

theorem bandEvaluation : Statement .bandEvaluation :=
  fun h => Bool.noConfusion (show true = false from h)

theorem settleEnd : Statement .settleEnd :=
  fun h => Bool.noConfusion (show true = false from h)

theorem loadEnd : Statement .loadEnd :=
  fun h => Bool.noConfusion (show true = false from h)

theorem testDone : Statement .testDone :=
  fun h => Bool.noConfusion (show true = false from h)

theorem resistanceComputed : Statement .resistanceComputed :=
  fun h => Bool.noConfusion (show true = false from h)

theorem testDue : Statement .testDue :=
  fun h => Bool.noConfusion (show true = false from h)

theorem peakLimit : Statement .peakLimit :=
  fun h => Bool.noConfusion (show true = false from h)

theorem persistLatch : Statement .persistLatch :=
  fun h => Bool.noConfusion (show true = false from h)

theorem intervalTimerExpiry : Statement .intervalTimerExpiry :=
  fun h => Bool.noConfusion (show true = false from h)

theorem riserLowGateShut : Statement .riserLowGateShut :=
  fun h => Bool.noConfusion (show true = false from h)

theorem riserLowGateOpen : Statement .riserLowGateOpen :=
  fun h => Bool.noConfusion (show true = false from h)

theorem riserHighLatch : Statement .riserHighLatch :=
  fun h => Bool.noConfusion (show true = false from h)

theorem railLimit : Statement .railLimit :=
  fun h => Bool.noConfusion (show true = false from h)

theorem railHigh : Statement .railHigh :=
  fun h => Bool.noConfusion (show true = false from h)

theorem demandLinesChange (lines : DemandLines) : Statement (.demandLinesChange lines) :=
  fun h => Bool.noConfusion (show true = false from h)

theorem demandLevelTaken : Statement .demandLevelTaken :=
  fun h => Bool.noConfusion (show true = false from h)

theorem readySeen : Statement .readySeen :=
  fun h => Bool.noConfusion (show true = false from h)

theorem readyLost : Statement .readyLost :=
  fun h => Bool.noConfusion (show true = false from h)

theorem bootTimeout : Statement .bootTimeout :=
  fun h => Bool.noConfusion (show true = false from h)

theorem retryWaitExpiry : Statement .retryWaitExpiry :=
  fun h => Bool.noConfusion (show true = false from h)

theorem idleTimerExpiry : Statement .idleTimerExpiry :=
  fun h => Bool.noConfusion (show true = false from h)

theorem keepAliveTime : Statement .keepAliveTime :=
  fun h => Bool.noConfusion (show true = false from h)

theorem statusFrameEnd : Statement .statusFrameEnd :=
  fun h => Bool.noConfusion (show true = false from h)

theorem repeatTimerExpiry : Statement .repeatTimerExpiry :=
  fun h => Bool.noConfusion (show true = false from h)

theorem enterSleep : Statement .enterSleep :=
  fun h => Bool.noConfusion (show true = false from h)

theorem startBitEdge : Statement .startBitEdge :=
  fun h => Bool.noConfusion (show true = false from h)

theorem switchingPeriodStart : Statement .switchingPeriodStart :=
  fun h => Bool.noConfusion (show true = false from h)

theorem onTimeEnd : Statement .onTimeEnd :=
  fun h => Bool.noConfusion (show true = false from h)

end Sys2Proof.Laws.WellFormed
end

