-- ==== Sys2Proof/Laws/Tables.lean ====
section
/-! SUPPORT. The laws of windows, masks and of the peer table's records: a read after a write gives what was written, and leaves every other
address alone. -/

namespace Sys2Proof.Machine

/-- A window keeps at most the number of samples it is made for. -/
theorem pushWindow_length_le (n : Nat) (w : List Nat) (x : Nat) (h : w.length ≤ n) : (pushWindow n w x).length ≤ n := by
  unfold pushWindow
  dsimp only
  split <;> simp_all

/-- A window never comes out empty. -/
theorem pushWindow_ne_nil (n : Nat) (w : List Nat) (x : Nat) (hn : 0 < n) : pushWindow n w x ≠ [] := by
  intro h
  have := congrArg List.length h
  unfold pushWindow at this
  dsimp only at this
  split at this <;> simp_all

/-- Marking an entry leaves the others as they are. -/
@[simp] theorem maskHas_maskSet (m : BitVec 64) (a b : Addr) : maskHas (maskSet m a) b = (decide (a = b) || maskHas m b) := by
  simp only [maskHas, maskSet, BitVec.getLsbD_or, BitVec.getLsbD_shiftLeft, BitVec.getLsbD_one]
  have ha := a.isLt
  have hb := b.isLt
  by_cases h : a = b
  · simp [h]
  · have : a.val ≠ b.val := fun e => h (Fin.ext e)
    simp only [h, decide_false, Bool.false_or]
    by_cases h2 : b.val < a.val
    · simp [h2]
    · have : b.val - a.val ≠ 0 := by omega
      simp [this]

/-- Clearing an entry leaves the others as they are. -/
@[simp] theorem maskHas_maskClear (m : BitVec 64) (a b : Addr) : maskHas (maskClear m a) b = (decide (a ≠ b) && maskHas m b) := by
  simp only [maskHas, maskClear, BitVec.getLsbD_and, BitVec.getLsbD_not, BitVec.getLsbD_shiftLeft, BitVec.getLsbD_one]
  have ha := a.isLt
  have hb := b.isLt
  by_cases h : a = b
  · simp [h]
  · have : a.val ≠ b.val := fun e => h (Fin.ext e)
    simp only [h, ne_eq, not_false_eq_true, decide_true, Bool.true_and]
    by_cases h2 : b.val < a.val
    · simp [h2, hb]
    · have : b.val - a.val ≠ 0 := by omega
      simp [this, hb]

/-- Reading the record just written. -/
@[simp] theorem findRecord_putRecord_self (a : Addr) (r : PeerRecord) (l : List (Addr × PeerRecord)) :
    findRecord a (putRecord a r l) = some r := by
  induction l with
  | nil => simp [putRecord, findRecord]
  | cons e l ih =>
    obtain ⟨b, x⟩ := e
    simp only [putRecord]
    (repeat' split) <;> simp_all [findRecord]

/-- A write to one address leaves the record of every other. -/
theorem findRecord_putRecord_of_ne (a b : Addr) (r : PeerRecord) (l : List (Addr × PeerRecord)) (h : b ≠ a) :
    findRecord b (putRecord a r l) = findRecord b l := by
  induction l with
  | nil => simp [putRecord, findRecord, h]
  | cons e l ih =>
    obtain ⟨c, x⟩ := e
    simp only [putRecord]
    (repeat' split) <;> simp_all [findRecord]

/-- A removed record is gone. -/
@[simp] theorem findRecord_removeRecord_self (a : Addr) (l : List (Addr × PeerRecord)) : findRecord a (removeRecord a l) = none := by
  unfold removeRecord
  induction l with
  | nil => rfl
  | cons e l ih =>
    obtain ⟨c, x⟩ := e
    by_cases h : c = a
    · simpa [List.filter_cons, h] using ih
    · have h' : ¬ a = c := fun e => h e.symm
      simpa [List.filter_cons, h, findRecord, h'] using ih

/-- Removing a record leaves the others. -/
theorem findRecord_removeRecord_of_ne (a b : Addr) (l : List (Addr × PeerRecord)) (h : b ≠ a) :
    findRecord b (removeRecord a l) = findRecord b l := by
  unfold removeRecord
  induction l with
  | nil => rfl
  | cons e l ih =>
    obtain ⟨c, x⟩ := e
    by_cases hc : c = a
    · subst hc
      simpa [List.filter_cons, findRecord, h] using ih
    · simp only [List.filter_cons, hc, ne_eq, not_false_eq_true, decide_true, if_true, findRecord]
      split
      · rfl
      · exact ih

end Sys2Proof.Machine
end

