-- ==== Sys2Proof/Tests/Slice0.lean ====
section
/-! SUPPORT. Tests: the smoke tests of WellFormed, the worked sequences of the spec on single steps, and for every statement with hypotheses
a concrete state and operands that meet them, at the boundary values of its clauses. -/

namespace Sys2Proof.Tests

open Sys2Proof Sys2Proof.Machine

-- One test at a time: a kernel evaluation that waits for another holds a thread, and a hundred of them at once do not fit in memory.
set_option Elab.async false

/-! ### WellFormed -/

/-- Samples within R111's ranges, at their ends. -/
def edgeSamples : Samples := { riserVoltage := 6553, riserCurrent := 4095, battVoltage := 32767, battCurrent := -16384 }

theorem test_wf_edge_samples : (Instr.measurementEvent edgeSamples).wf = true := by decide
theorem test_wf_riser_voltage : (Instr.measurementEvent { edgeSamples with riserVoltage := 6554 }).wf = false := by decide
theorem test_wf_riser_current : (Instr.measurementEvent { edgeSamples with riserCurrent := 4096 }).wf = false := by decide
theorem test_wf_batt_voltage : (Instr.measurementEvent { edgeSamples with battVoltage := 32768 }).wf = false := by decide
theorem test_wf_batt_current_low : (Instr.measurementEvent { edgeSamples with battCurrent := -16385 }).wf = false := by decide
theorem test_wf_batt_current_high : (Instr.measurementEvent { edgeSamples with battCurrent := 16384 }).wf = false := by decide

/-- The pins of a start: address 20, B_rated 1,500, G_max 40, profile 1, lead-acid, 4 h interval (R159). -/
def pins : StartPins := { straps := 20874#16, mains := .absent, riser := 4500, demand := {}, ready := false }

theorem test_wf_start_riser : (Instr.start { pins with riser := 6554 }).wf = false ∧ (Instr.start pins).wf = true := by decide

/-- The table gives no row bits, so no word spells a command. -/
theorem test_no_word : decodeTableWord 16 0x1234 = none ∧ State.reset.withFetchWord 16 0x1234 = State.reset := by decide

/-! ### Straps (R159) -/

theorem test_straps : strapAddress pins.straps = 20 ∧ strapRating pins.straps = 1500 ∧ strapCeiling pins.straps = 40
    ∧ strapProfile pins.straps = 1 ∧ strapChemistry pins.straps = .leadAcid
    ∧ strapTestInterval pins.straps = some (14400 * 3200000) := by decide

/-! ### Frames on the line (chapters 1 and 5) -/

/-- Station A's opening frame of chapter 1: address 2, FAST, round 18. -/
def frameA : Frame := .opening { addr := 2, tempo := .fast, round := 18 }

/-- Its check sequence is 27Eh, it carries four stuff bits and lasts 43 bit times (chapter 1). -/
theorem test_check_sequence : checkRegister (arbitrationBits frameA ++ payloadBits frameA) = 0x27E#10 ∧ frameLength frameA = 43 := by
  decide +kernel

/-- CALL from address 1 against KEEP from address 4 (chapter 5): the arbitration fields, and B's loss at the second class bit. -/
theorem test_arbitration :
    let a : Frame := .notice { cls := .call, addr := 1, request := 11, estimate := 1500, outage := .absent }
    let b : Frame := .notice { cls := .keep, addr := 4, request := 3, estimate := 1500, outage := .absent }
    fieldValue (arbitrationBits a) = 0b1001000001 ∧ fieldValue (arbitrationBits b) = 0b1011000100
      ∧ compareSent (sentBits b) ((lineBits a .dominant).take 3) = .going
      ∧ compareSent (sentBits b) ((lineBits a .dominant).take 4) = .lost := by decide +kernel

/-- Every class, both kinds, at extreme fields: what is sent is what is received (R77, R81). -/
theorem test_receive_extremes :
    let n : Frame := .notice { cls := .standby, addr := 63, request := 0, estimate := 4095, outage := .present }
    let o : Frame := .opening { addr := 0, tempo := .fast, round := 0 }
    (receive (lineBits n .recessive)).frame = some n ∧ (receive (lineBits o .dominant)).frame = some o := by decide +kernel

/-- A flipped payload bit is a check error, taken at the acknowledge delimiter (R79). -/
theorem test_check_error :
    let bits := lineBits frameA .recessive
    let bad := bits.take 17 ++ ((bits.drop 17).take 1).map Level.flip ++ bits.drop 18
    (receive bad).frame = none ∧ (receive bad).fault = some .check := by decide +kernel

/-! ### The share computation (chapter 3) -/

/-- The worked case's view. -/
def workedView : List Claim :=
  [⟨3, .call, 40, true⟩, ⟨8, .wake, 120, true⟩, ⟨8, .recover, 30, true⟩, ⟨15, .call, 35, false⟩, ⟨21, .wake, 120, true⟩,
   ⟨26, .keep, 11, true⟩, ⟨40, .wake, 90, true⟩, ⟨52, .keep, 3, true⟩]

theorem test_worked_grants : computeGrants workedView 300 = [40, 81, 0, 35, 81, 0, 61, 0] := by decide +kernel
theorem test_recip_worked : recip 330 = 50823 ∧ recip 2000 = 8384 := by decide +kernel

/-! ### The battery bands (chapter 8) -/

theorem test_band_sequence :
    [12450, 11950, 10800, 11050, 11120, 12600, 12350, 12450, 13150].foldl
        (fun acc v => acc ++ [newBand .leadAcid (acc.getLast?.getD .good) v]) [Band.good]
      = [.good, .good, .low, .cutoff, .cutoff, .reserve, .low, .low, .good, .full] := by decide

/-! ### A running station -/

/-- Round 61 of a station: MEMBER, referenced, FAST, converter RUN at 3 and 30, terminal HOLD, band GOOD, line idle; t0 is 100,000,000 cycles
and the clock stands at t0 + 700 ms. -/
def base : State where
  clock := 102240000
  supply :=
    { power := .running, strapWord := pins.straps, mains := .absent, mainsCandidate := .absent, onset := some 0, oscillator := .stable }
  round :=
    { participation := .member, referenced := true, t0 := 100000000, tempo := .fast, number := 61, adopted := true
      timer := some 103334400 }
  peers :=
    { records := [(20, { feed := some ⟨.wake, 18, 2, false⟩, estimate := 1500, lastHeard := some 61 })]
      present := 0x100000#64 }
  share := { budgetUsed := 1500, computedFeed := 18, computedCharge := 30, feedGrant := 3, chargeGrant := 30 }
  line := { phase := .idle, bitPos := some {} }
  conv :=
    { mode := .run, feedSetpoint := 3, chargeSetpoint := 30, timeBase := some ⟨102240016, 102240000⟩, window := [4500]
      intervalTimer := 108480000, riserLowShut := false, command := 20 }
  batt := { band := .good, charge := .closed, chargeLimit := 1500 }
  term := { mode := .hold, keepAlive := some 102240000 }
  test := { schedule := some 102240000 }

/-- The next state of a command, the state itself where there is none. -/
def after (c : Instr) (s : State) : State :=
  match exec c s with
  | .next t => t
  | .fault _ => s
  | .refused _ => s

/-- The state after a step, the state itself where there is none. -/
def stepped (s : State) : State :=
  match step s with
  | .next t => t
  | .fault _ => s
  | .refused _ => s

/-- Chapter 7, a raising point: feed 3 to 18 and charge 30 to 22; the charge setpoint steps down at once, the feed setpoint waits. -/
theorem test_raising_point :
    let t := after .raisingPoint { base with round := { base.round with raisingPending := true } }
    t.share.feedGrant = 18 ∧ t.share.chargeGrant = 22 ∧ t.conv.feedSetpoint = 3 ∧ t.conv.chargeSetpoint = 22 := by decide +kernel

/-- The four events after it ramp the feed setpoint to 7, 11, 15 and 18 (chapter 7). -/
theorem test_ramp : [7, 11, 15, 18, 18] = [3, 7, 11, 15, 18].map fun x => rampStep x 18 := by decide

/-- A quiet sample. -/
def sample : Samples := { riserVoltage := 4500, riserCurrent := 60, battVoltage := 12650, battCurrent := 15 }

/-- Chapter 1, mains-fail arming of station C: address 9, t0 = 0, absence taken at 4,100 ms, re-armed to 4,170 ms. -/
theorem test_mains_fail_arming :
    let s : State := { base with
      clock := 4100 * 3200
      supply := { base.supply with strapWord := 0x2400#16, mains := .present, mainsSince := 4000 * 3200 }
      round := { base.round with tempo := .slow, t0 := 0, timer := some (30020 * 3200) } }
    (after .mainsFail s).round.timer = some (4170 * 3200) := by decide +kernel

/-- Chapter 4: profile 2, lithium, band LOW, ACTIVE idle: KEEP 15 and RECOVER 25; the withdrawal at band FULL. -/
theorem test_claims :
    let s : State := { base with
      supply := { base.supply with strapWord := 0x1594#16 }
      demand := { window := [4720], lastCharge := some .topup }
      batt := { base.batt with band := .low }
      term := { base.term with mode := .active } }
    s.feedClaim = (.keep, 15) ∧ s.chargeClaim = some (.recover, 25) ∧ s.budgetEstimate = 1500
      ∧ ({ s with batt := { s.batt with band := .full } } : State).chargeNotice = some (.topup, 0) := by decide +kernel

/-- Chapter 9, 282.344 s: ready at 41.332 s of boot time is a wake check of 41.3 s. -/
theorem test_boot_time : bootTenths (241012 * 3200) (282344 * 3200) = 413 := by decide

/-- R157: an OK value is 1,199 at most, also for a boot of 120 s. -/
theorem test_boot_time_range : bootTenths 0 (120 * 3200000) = 1199 ∧ bootTenths 0 (120 * 3200000 - 1) = 1199
    ∧ bootTenths 0 (90 * 3200000) = 900 := by decide

/-- R150: an outage onset forms the schedule anew and nothing is due at it, also where a due flag stood from before. -/
theorem test_onset_clears_due :
    let s : State := { base with
      supply := { base.supply with mains := .present, mainsSince := base.clock - 320000 }
      test := { base.test with due := true } }
    (after .mainsFail s).test.due = false ∧ (after .mainsFail s).test.carry = false := by decide +kernel

/-- A pulse test at DONE (chapter 10). -/
def worn : TestContext :=
  { phase := .relax, events := 500, settleVolt := 0, settleCurr := 0, vRest := 12650, iRest := 15, loadVolt := 0, loadCurr := 0
    vLoad := 12530, iLoad := 2015, startBand := .good, startTime := 100000000, request := 3 }

/-- Chapter 10: ΔV 120 mV and ΔI 2,000 mA make 59 mΩ, PASS, and the next due time 14,400 s after the start. -/
theorem test_pulse_result :
    let s : State := { base with batt := { base.batt with hold := true, charge := .opened }
                                 test := { base.test with context := some worn, carry := true, carryCount := 5 } }
    let t := after .resistanceComputed (after .testDone s)
    t.test.results = [{ kind := .pulse, verdict := .pass, value := some 59, round := 61, band := .good }]
      ∧ t.test.schedule = some (100000000 + 14400 * 3200000) := by decide +kernel

/-- A status frame is 32 bytes long with three records, and its length byte is 30 (chapter 12). -/
theorem test_status_frame :
    let r : ResultRecord := { kind := .pulse, verdict := .pass, value := some 59, round := 157, band := .good }
    let b := statusBytes { base with test := { base.test with results := [r, r, r] } }
    b.length = 32 ∧ b[0]? = some 0xA5 ∧ b[1]? = some 30 ∧ b[4]? = some 61 ∧ b[19]? = some 3 ∧ b[21]? = some 0 ∧ b[22]? = some 59
      ∧ b[23]? = some 157 := by decide +kernel

/-- The line rests at the high level, and a frame begins with a low start bit (R166). -/
theorem test_status_line :
    let s : State := { base with status := { frame := some ⟨[0xA5], base.clock⟩ } }
    base.statusLevel = true ∧ s.statusLevel = false ∧ ({ s with clock := s.clock + 334 } : State).statusLevel = true := by
  decide +kernel

/-- A carry count of 30 defers the test at a snapshot (R151). -/
theorem test_carry_deferred :
    let t := ({ base with test := { base.test with carry := true, carryCount := 30 } } : State).countCarry
    t.test.carry = false ∧ t.test.results.head?.map (fun r => r.verdict) = some .deferred := by decide +kernel

/-- A test in flight in a phase, with its events counted. -/
def testing (p : TestPhase) (n : Nat) : State := { base with
  batt := { base.batt with hold := decide (p ≠ .settle), charge := .opened }
  test := { base.test with context := some { worn with phase := p, events := n }, gate := decide (p = .load), carry := true } }

/-! ### Witnesses: the step and the queue -/

theorem witness_StepRunsFrontCommand :
    ({ base with pending := [.lineIdle, .mainsFail] } : State).pending = .lineIdle :: [.mainsFail] ∧ base.pending = [] := by decide

/-! ### Witnesses: frames -/

theorem witness_LowerFieldWinsArbitration :
    fieldValue (arbitrationBits frameA)
      < fieldValue (arbitrationBits (.notice { cls := .life, addr := 0, request := 0, estimate := 0, outage := .absent })) := by
  decide +kernel

/-- A line controller at the end of a quantum of a nominal bit, a fault on its driver or not in this quantum and the next. -/
def quantumEnd (n : Nat) (faults : List Bool) (l : LineState) : State := { base with
  line := { l with bitPos := some { cycle := 9, quantum := n } }
  pins := { driverFault := faults } }

/-- An active error flag of a number of sampled bits. -/
def flagging (n : Nat) : ErrorInHand := { kind := .bit, role := .transmitter, flag := .active, progress := .flag n .dominant }

/-- What a bit's start finds: a start bit to send, the acknowledge slot to answer (after 35 of frame A's 43 bits), a flag of 5 and of 6 bits
sampled, a fault, and nothing of these. -/
def driving : List State :=
  [quantumEnd 16 [] { phase := .frame, role := .transmitter, queue := [frameA] },
   quantumEnd 16 [] { phase := .frame, role := .receiver, rxBits := (lineBits frameA .recessive).take 35 },
   quantumEnd 16 [] { phase := .error, error := some (flagging 5) },
   quantumEnd 16 [false, true] { phase := .idle },
   quantumEnd 16 [] { phase := .error, error := some (flagging 6) },
   quantumEnd 16 [] { phase := .frame, role := .receiver, rxBits := (lineBits frameA .recessive).take 34 },
   quantumEnd 16 [] { phase := .frame, role := .transmitter, queue := [frameA], stuck := true }]

theorem witness_ReceivedFrameIsSentFrame : ∀ s ∈ driving,
    s.pending = [] ∧ s.supply.oscillator = .stable ∧ s.line.bitPos = some { cycle := 9, quantum := 16, segA := 10, segB := 5 } := by
  decide +kernel

/-- R73, R86, R97: dominant for the first four, recessive for the others. -/
theorem test_driving : driving.map (fun s => (stepped s).line.driver)
    = [.dominant, .dominant, .dominant, .dominant, .recessive, .recessive, .recessive] := by decide +kernel

/-- A station receiving a frame, at the end of a quantum in which a peer's dominant edge comes. -/
def edgeAt (p : Nat) : State := { base with
  line := { phase := .frame, role := .receiver, bitPos := some { cycle := 9, quantum := p } }
  pins := { linePeers := [.dominant] } }

theorem witness_BitTimingAndSamples (p : Nat) (h : p ∈ [1, 2, 11, 12, 13, 14, 15, 16]) :
    (edgeAt p).pending = [] ∧ (edgeAt p).supply.oscillator = .stable ∧ (edgeAt p).line.phase = .frame
      ∧ (edgeAt p).line.driver = .recessive ∧ (edgeAt p).line.seen = .recessive ∧ (edgeAt p).pins.linePeers.head? = some .dominant
      ∧ (edgeAt p).pins.driverFault.head? ≠ some true ∧ 1 ≤ p ∧ p ≤ 16
      ∧ (edgeAt p).line.bitPos = some { cycle := 9, quantum := p, segA := 10, segB := 5, resynced := false } := by
  refine ⟨rfl, rfl, rfl, rfl, rfl, rfl, by simp [edgeAt], ?_, ?_, rfl⟩ <;> simp at h <;> omega

/-- R76: an edge in an error delimiter resynchronises as one in a frame does. -/
theorem witness_BitTimingAndSamples_error :
    let e := edgeAt 13
    let s : State := { e with line := { e.line with phase := .error, error := some { flagging 0 with progress := .delimiter 2 } } }
    s.line.phase = .error ∧ s.line.driver = .recessive ∧ s.line.seen = .recessive
      ∧ ((stepped s).line.bitPos.map fun b => (b.quantum, b.segB)) = some (14, 3) := by decide +kernel

/-- Samples of each kind, the line recessive, at the last bit of a flag, a delimiter, a recovery run and a clearing run. -/
def sampling : List State :=
  [quantumEnd 11 [] { phase := .error, error := some (flagging 5) },
   quantumEnd 11 [] { phase := .error, error := some { flagging 0 with flag := .passive, progress := .flag 5 .dominant } },
   quantumEnd 11 [] { phase := .error, error := some { flagging 0 with progress := .waiting } },
   quantumEnd 11 [] { phase := .error, error := some { flagging 0 with progress := .delimiter 7 } },
   quantumEnd 11 [] { phase := .integrating, recessiveRun := 8, confinement := .offline, recoveryBits := 11, recoveryRuns := 63 },
   quantumEnd 11 [] { phase := .gap, gapBits := 2, stuck := true, clearingRun := 11 },
   quantumEnd 11 [true] { phase := .idle, dominantRun := 399, seen := .dominant }]

theorem witness_BitTimingAndSamples_sample : ∀ s ∈ sampling,
    s.pending = [] ∧ s.supply.oscillator = .stable
      ∧ s.line.bitPos = some { cycle := 9, quantum := 11, segA := 10, segB := 5 }
      ∧ ¬ (s.line.seen = .recessive ∧ s.pins.linePeers.head?.getD .recessive = .dominant) := by decide +kernel

/-- R98, R99: an active flag ends with its sixth sample, a passive one starts its run again at another level, the delimiter begins and counts;
R83, R104, R106: the runs reach 9, 12 and 64, 3, 12 and 400. -/
theorem test_samples :
    (sampling.take 4).map (fun s => (stepped s).line.error.map ErrorInHand.progress)
        = [some .waiting, some (.flag 1 .recessive), some (.delimiter 1), some (.delimiter 8)]
      ∧ (sampling.drop 4).map (fun s =>
          let l := (stepped s).line
          (l.recessiveRun, l.recoveryRuns, l.gapBits, l.clearingRun, l.dominantRun))
        = [(9, 64, 0, 0, 0), (0, 0, 3, 12, 0), (0, 0, 0, 0, 400)] := by decide +kernel

/-! ### Witnesses: the share computation -/

theorem witness_GrantsNeverExceedBudget : ∀ c, classDemand workedView c ≤ 16383 := by
  intro c
  cases c <;> decide

/-- WAKE at address 8 is the partial class, CALL at 3 is served in full, KEEP at 26 finds the budget taken up. -/
theorem witness_FillServesClassesInOrder :
    (⟨8, .wake, 120, true⟩ : Claim) ∈ workedView ∧ (⟨3, .call, 40, true⟩ : Claim) ∈ workedView
      ∧ (⟨26, .keep, 11, true⟩ : Claim) ∈ workedView
      ∧ 0 + classDemand workedView .call ≤ 300
      ∧ classDemand workedView .call < 300 ∧ 300 < classDemand workedView .call + classDemand workedView .wake
      ∧ 300 ≤ classDemand workedView .call + classDemand workedView .wake ∧ 0 < classDemand workedView .keep := by decide

/-! ### Witnesses: supply -/

theorem witness_DipEntersReset : base.supply.power = .running ∧ State.reset.supply.power = .reset := by decide

theorem witness_DipEntersReset_other : (∀ p, Instr.mainsFail ≠ .start p) ∧ Instr.mainsFail ≠ .retainedStoreLoss := by
  exact ⟨fun _ h => Instr.noConfusion h, by decide⟩

theorem witness_StartTakesStartValues : State.reset.supply.power = .reset := rfl

theorem witness_OscillatorBecomesStable :
    let s : State := { base with supply := { base.supply with oscillator := .starting (base.clock - 6400) } }
    s.supply.power = .running ∧ s.supply.oscillator = .starting 102233600 ∧ 102233600 + 2 * 3200 ≤ s.clock ∧ s.status.frame = none := by
  decide

theorem witness_StrapWordFixedFromStart : ∃ t, exec .mainsFail base = .next t ∧ ∀ p, Instr.mainsFail ≠ .start p :=
  ⟨after .mainsFail base, rfl, fun _ h => Instr.noConfusion h⟩

theorem witness_MainsFailIsOutageOnset :
    let s : State := { base with supply := { base.supply with mains := .present, mainsSince := base.clock - 320000 } }
    s.supply.power = .running ∧ s.supply.mains = .present ∧ s.supply.mainsCandidate = .absent
      ∧ s.supply.mainsSince + 100 * 3200 ≤ s.clock ∧ MainsState.present ≠ s.supply.mainsCandidate := by decide

/-- R143 to R145: the change to ABSENT meets a terminal ACTIVE at demand IDLE, with a feed grant of 3 below its draw of 11, at a band. -/
def outageOf (b : Band) : State := { base with
  supply := { base.supply with mains := .present, mainsSince := base.clock - 320000 }
  batt := { base.batt with band := b }
  term := { base.term with mode := .active } }

theorem witness_MainsFailIsOutageOnset_terminal (b : Band) (h : b ∈ [.good, .reserve, .cutoff]) :
    (outageOf b).batt.band = b ∧ (outageOf b).term.wakePending = false ∧ (outageOf b).term.demand = .idle
      ∧ (outageOf b).share.feedGrant < (outageOf b).activeDraw
      ∧ (after .mainsFail (outageOf b)).term.mode = (if b = .good then .active else if b = .reserve then .hold else .off)
      ∧ (after .mainsFail (outageOf b)).term.idleTimer = (if b = .good then some base.clock else none) := by
  simp at h
  rcases h with rfl | rfl | rfl <;> decide +kernel

/-- R139: of two wakes left pending at RESERVE without mains, EMERGENCY has its own made. -/
theorem witness_MainsFailIsOutageOnset_wake :
    let s (l : DemandLevel) : State := { outageOf .reserve with
      term := { base.term with mode := .hold, wakePending := true, demand := l } }
    (s .wanted).pins.ready = false ∧ (s .wanted).test.context = none
      ∧ (after .mainsFail (s .emergency)).term.mode = .booting ∧ (after .mainsFail (s .wanted)).term.wakePending = true := by
  decide +kernel

theorem witness_MainsReturnEndsOutage :
    let s : State := { base with supply := { base.supply with mainsCandidate := .present, mainsSince := base.clock - 16000000 } }
    s.supply.power = .running ∧ s.supply.mains = .absent ∧ s.supply.mainsCandidate = .present
      ∧ s.supply.mainsSince + 5 * 3200000 ≤ s.clock ∧ s.batt.band ≠ .unrated ∧ s.pins.ready = false ∧ s.term.mode = .hold := by decide

/-- R113, R156: the return finds a fault history and a test in flight. -/
theorem witness_MainsReturnEndsOutage_history (m : ConverterMode) (h : m ∈ [.run, .held, .riserAbsent, .disabled]) :
    let s : State := { testing .settle 10 with
      supply := { base.supply with mainsCandidate := .present, mainsSince := base.clock - 16000000 }
      conv := { base.conv with mode := m, latchMark := true, latchCount := 2, peakRun := 7 } }
    s.conv.mode = m ∧ s.test.context = some { worn with phase := .settle, events := 10 }
      ∧ (after .mainsReturn s).conv.latchCount = (if m = .disabled then 2 else 0)
      ∧ (after .mainsReturn s).test.results.head?.map ResultRecord.verdict = some .aborted := by
  simp at h
  rcases h with rfl | rfl | rfl | rfl <;> decide +kernel

/-- A station in a slow round with its sleep frame sent. -/
def sleepy : State := { base with
  supply := { base.supply with mains := .present, mainsCandidate := .present, sleepRequest := true, sleepFrame := .sent }
  round := { base.round with tempo := .slow }
  term := { base.term with mode := .active } }

theorem witness_SleepAndWake :
    sleepy.supply.power = .running ∧ sleepy.supply.sleepRequest = true ∧ sleepy.supply.sleepFrame = .sent ∧ sleepy.status.frame = none
      ∧ sleepy.supply.asleep = false ∧ sleepy.supply.mains = .present ∧ sleepy.round.tempo = .slow
      ∧ sleepy.round.participation = .member ∧ sleepy.round.referenced = true ∧ sleepy.line.phase = .idle ∧ sleepy.line.queue = []
      ∧ sleepy.term.mode = .active ∧ sleepy.test.context = none ∧ sleepy.clock < sleepy.round.t0 + (30000 - 20) * 3200 := by decide

/-- The sleep frame sent and a condition false: the lead time reached. -/
theorem witness_SleepAndWake_kept :
    let s : State := { sleepy with clock := sleepy.round.t0 + (30000 - 20) * 3200 }
    s.supply.power = .running ∧ s.supply.sleepRequest = true ∧ s.supply.sleepFrame = .sent ∧ s.supply.asleep = false
      ∧ ¬ s.clock < s.round.t0 + (30000 - 20) * 3200 ∧ (after .enterSleep s).supply.asleep = false
      ∧ (after .enterSleep sleepy).supply.asleep = true := by decide +kernel

theorem witness_SleepAndWake_lead (b : Bool) :
    let s : State := { sleepy with supply := { sleepy.supply with asleep := b }, clock := sleepy.round.t0 + 29980 * 3200 }
    s.supply.power = .running ∧ s.supply.asleep = b ∧ s.round.timer.isSome = true ∧ s.leadTime ≤ s.clock := by
  cases b <;> decide

theorem witness_SleepAndWake_edge :
    let awake (w : Option Time) : State := { sleepy with supply := { sleepy.supply with wokeAt := w } }
    sleepy.supply.power = .running ∧ sleepy.supply.asleep = false ∧ (awake (some base.clock)).supply.wokeAt = some base.clock
      ∧ (awake none).supply.wokeAt ≠ some base.clock ∧ base.supply.sleepFrame ≠ .sent
      ∧ (awake (some base.clock)).clock = base.clock := by decide

/-- What the end of a command finds: a request whose conditions fail, and one without a sleep frame, the reporter free or not. -/
theorem witness_SleepAndWake_request :
    let asking : State := { sleepy with supply := { sleepy.supply with sleepFrame := .none } }
    ({ sleepy with round := { sleepy.round with tempo := .fast } } : State).round.tempo ≠ .slow
      ∧ asking.supply.sleepRequest = true ∧ asking.supply.sleepFrame = .none ∧ asking.status.frame = none
      ∧ asking.supply.oscillator = .stable ∧ asking.sleepAllowed = true ∧ base.supply.sleepRequest = false
      ∧ ({ asking with status := { frame := some ⟨[0xA5], base.clock⟩ } } : State).status.frame ≠ none := by decide +kernel

/-- R105: the dominant drive time is 0 in sleep and after the wake, whatever it stood at before. -/
theorem test_sleep_ends_drive_time :
    let held : LineState := { sleepy.line with driver := .dominant, driveTime := 700 }
    (after .enterSleep { sleepy with line := held }).line.driveTime = 0
      ∧ (after .lineEdgeWake { sleepy with line := held, supply := { sleepy.supply with asleep := true } }).line.driveTime = 0 := by
  decide +kernel

/-- R164: a condition that fails while the sleep frame is being sent keeps the station awake though it comes back before the frame's end. -/
theorem test_sleep_frame_given_up :
    let s : State := { sleepy with
      supply := { sleepy.supply with sleepFrame := .sending }
      status := { frame := some ⟨[0xA5], base.clock⟩ } }
    let t := after .startBitEdge s
    let u := after .statusFrameEnd { t with clock := t.clock + 33334, line := s.line }
    t.supply.sleepFrame = .none ∧ u.supply.sleepFrame = .sending ∧ (after .enterSleep u).supply.asleep = false := by decide +kernel

/-- R165: a round timer's lead and a line edge at one moment both are handled, in either order. -/
theorem test_two_wakes :
    let s : State := { sleepy with supply := { sleepy.supply with asleep := true }, clock := sleepy.round.t0 + 29980 * 3200 }
    (after .lineEdgeWake (after .roundTimerLead s)).round.missed = true
      ∧ (after .roundTimerLead (after .lineEdgeWake s)).round.missed = true := by decide +kernel

/-- R167: the repeat timer starts at the wake of an unreferenced station. -/
theorem test_wake_repeats :
    let s : State := { sleepy with
      supply := { sleepy.supply with asleep := true }
      round := { sleepy.round with referenced := false } }
    (after .lineEdgeWake s).status.repeatTimer = some (s.clock + 3200000) := by decide +kernel

/-! ### Witnesses: rounds -/

/-- A station that has just sampled the last bit of a frame, as its receiver or as its transmitter. -/
def heard (f : Frame) (r : Role) : State := { base with
  line := { phase := .frame, role := r, bitPos := some {}, frameStart := base.clock - 7000, rxBits := lineBits f .dominant
            queue := if r = .transmitter then [f] else [] } }

/-- The clauses on confinement, carry request and time base, at a carry count of 29 and of 30. -/
theorem witness_OpeningFrameIsReference_snapshot (n : Nat) (h : n ∈ [29, 30]) :
    let s : State := { heard frameA .receiver with test := { base.test with carry := true, carryCount := n } }
    ConfinementAgrees s ∧ s.round.closePending = false ∧ s.round.participation ≠ .muted ∧ s.test.carry = true ∧ s.test.context = none
      ∧ s.test.inHand = none ∧ s.test.carryCount = n ∧ s.conv.timeBase = some ⟨102240016, 102240000⟩
      ∧ s.line.finished = some frameA ∧ s.line.stuck = false := by
  unfold ConfinementAgrees
  simp at h
  rcases h with rfl | rfl <;> decide +kernel

/-- An early opening (R14): a lowering pending, the computation complete or in flight, the close event left over or not. -/
def early (inFlight close : Bool) : State := { heard frameA .receiver with
  round := { base.round with loweringPending := true, raisingPending := true, closePending := close }
  share := { base.share with inFlight := inFlight, computedCharge := 20 } }

theorem witness_OpeningFrameIsReference_early (inFlight close : Bool) :
    (early inFlight close).supply.power = .running ∧ (early inFlight close).line.finished = some frameA
      ∧ (early inFlight close).line.stuck = false ∧ (2 : Addr) ≠ (early inFlight close).address
      ∧ (early inFlight close).round.participation ≠ .muted ∧ (early inFlight close).round.loweringPending = true
      ∧ (early inFlight close).round.closePending = close ∧ (early inFlight close).share.inFlight = inFlight := by
  cases inFlight <;> cases close <;> decide +kernel

/-- R14: with the computation complete the lowering is applied at the opening; with the close event left over it is owed. -/
theorem test_early_opening :
    let now := after (.openingFrame { addr := 2, tempo := .fast, round := 18 }) (early false false)
    let owed := after (.openingFrame { addr := 2, tempo := .fast, round := 18 }) (early false true)
    now.share.chargeGrant = 20 ∧ now.round.owedLowering = false ∧ owed.share.chargeGrant = 30 ∧ owed.round.owedLowering = true := by
  decide +kernel

theorem witness_OpeningFrameIsReference :
    (heard frameA .receiver).line.finished = some frameA ∧ (heard frameA .receiver).line.stuck = false
      ∧ (2 : Addr) ≠ (heard frameA .receiver).address ∧ (heard frameA .transmitter).line.finished = some frameA
      ∧ (heard frameA .transmitter).line.role = .transmitter ∧ base.supply.power = .running := by decide +kernel

/-- An opening frame that ends with the line-stuck flag set, what waited for its end due or not. -/
theorem witness_OpeningFrameIsReference_stuck (close : Bool) :
    let h := heard frameA .receiver
    let s : State := { h with
      line := { h.line with stuck := true }
      round := { base.round with closePending := close, timer := if close then some base.clock else base.round.timer } }
    s.supply.power = .running ∧ s.line.finished = some frameA ∧ s.line.stuck = true ∧ (2 : Addr) ≠ s.address ∧ s.closeDue = close
      ∧ s.timerExpired = close ∧ ConfinementAgrees s := by
  unfold ConfinementAgrees
  cases close <;> decide +kernel

/-- A notice of this station's address, from another. -/
def ownNotice : Notice := { cls := .keep, addr := 20, request := 3, estimate := 1500, outage := .absent }

theorem witness_AddressClashMutes :
    let s := heard (.notice ownNotice) .receiver
    let s' := heard (.opening ⟨20, .fast, 7⟩) .receiver
    s.supply.power = .running ∧ s.line.role ≠ .transmitter ∧ s.round.participation ≠ .muted
      ∧ s.line.finished = some (.notice ownNotice) ∧ ownNotice.addr = s.address
      ∧ s'.line.role ≠ .transmitter ∧ s'.line.finished = some (.opening ⟨20, .fast, 7⟩) ∧ s'.address = 20 := by decide +kernel

/-- A clash with a close event waiting for the frame's end or not, of a station that is MUTED already or not. -/
theorem witness_AddressClashMutes_close (close muted : Bool) :
    let s : State := { heard (.notice ownNotice) .receiver with
      round := { base.round with closePending := close, participation := if muted then .muted else .member } }
    s.supply.power = .running ∧ s.line.role ≠ .transmitter ∧ s.line.finished = some (.notice ownNotice) ∧ ownNotice.addr = s.address
      ∧ s.closeDue = close ∧ (s.round.participation = .muted ↔ muted = true) ∧ s.round.missed = false
      ∧ s.round.t0 + 600 * 3200 ≤ s.clock ∧ ConfinementAgrees s := by
  unfold ConfinementAgrees
  cases close <;> cases muted <;> decide +kernel

/-- The state of witness_NoticeIsRecorded: t0 + 700 ms, with the close event pending or not. -/
def noticed (r : Role) (close : Bool) : State :=
  { heard (.notice ownNotice) r with round := { base.round with closePending := close } }

theorem witness_NoticeIsRecorded :
    (noticed .transmitter false).line.finished = some (.notice ownNotice) ∧ (noticed .transmitter false).line.role = .transmitter
      ∧ (noticed .transmitter false).timerExpired = false ∧ (noticed .transmitter false).closeDue = false
      ∧ (noticed .transmitter true).closeDue = true ∧ (noticed .transmitter true).timerExpired = false
      ∧ (noticed .transmitter true).line.finished = some (.notice ownNotice) := by decide +kernel

/-- A charge notice, and a feed one. -/
theorem witness_NoticeIsRecorded_class :
    let n : Notice := { ownNotice with cls := .topup, addr := 21 }
    (heard (.notice n) .receiver).line.finished = some (.notice n) ∧ n.addr ≠ (heard (.notice n) .receiver).address
      ∧ isChargeClass n.cls = true ∧ isChargeClass ownNotice.cls = false ∧ (heard (.notice n) .receiver).closeDue = false := by
  decide +kernel

theorem witness_NoticeIsRecorded_confinement : ConfinementAgrees (noticed .transmitter true) := by
  unfold ConfinementAgrees
  decide +kernel

/-- Round timer just expired, by last valid completion. -/
def expired (v : Option Time) : State := { base with round := { base.round with timer := some base.clock, lastValid := v } }

theorem witness_RoundTimerOpensRound :
    (expired none).supply.power = .running ∧ (expired none).round.participation = .member
      ∧ (expired none).round.timer = some base.clock ∧ (expired none).line.phase ≠ .frame ∧ (expired none).line.phase ≠ .error
      ∧ (expired none).round.lastValid = none ∧ base.clock ≤ (base.clock - 640000) + 200 * 3200
      ∧ ¬ base.clock ≤ (base.clock - 640001) + 200 * 3200
      ∧ (expired none).line.confinement ≠ .offline ∧ (expired none).line.stuck = false
      ∧ (¬ ∃ f ∈ (expired none).line.queue, Frame.isNotice f = false) ∧ (expired none).line.phase = .idle
      ∧ (expired none).supply.oscillator = .stable ∧ (expired none).line.extraWait = .none := by decide +kernel

theorem witness_RoundTimerOpensRound_barred :
    let s : State := { expired none with line := { base.line with stuck := true, phase := .gap } }
    s.round.lastValid = none ∧ s.line.stuck = true ∧ s.line.phase ≠ .frame ∧ s.line.phase ≠ .error ∧ s.line.phase ≠ .idle := by
  decide +kernel

/-- An own opening frame already queued, on an idle line, without a STABLE oscillator, and with an extra wait. -/
theorem witness_RoundTimerOpensRound_queued (w : ExtraWait) (h : w ∈ [.none, .owed, .until 0]) :
    let s : State := { expired none with line := { base.line with queue := [frameA], extraWait := w } }
    s.round.lastValid = none ∧ s.line.confinement ≠ .offline ∧ s.line.stuck = false ∧ s.line.phase = .idle ∧ s.line.extraWait = w
      ∧ (∃ f ∈ s.line.queue, Frame.isNotice f = false)
      ∧ ({ s with supply := { s.supply with oscillator := .stopped } } : State).supply.oscillator ≠ .stable := by
  simp at h
  rcases h with rfl | rfl | rfl <;> decide +kernel

theorem witness_JoinTimerMakesMember :
    let s : State := { base with round := { participation := .listen, joinTimer := some base.clock } }
    s.supply.power = .running ∧ s.round.participation = .listen ∧ s.round.joinTimer = some base.clock ∧ base.clock ≤ s.clock
      ∧ s.round.referenced = false := by
  decide

/-- At the close event, with two CALL claims of 100 and an estimate of 150, so that the fill is partial; the stage as given. -/
def closing (stage : Option StageUser) (taken : Option Time) : State := { base with
  clock := 100000000 + 600 * 3200
  round := { base.round with closePending := true }
  peers :=
    { records := [(3, { feed := some ⟨.call, 100, 2, true⟩, estimate := 150 }), (9, { feed := some ⟨.call, 100, 1, false⟩ })]
      present := 0x208#64, heard := 0x8#64 }
  share := { base.share with stage := stage, stageTaken := taken } }

theorem witness_CloseEventAssemblesView (stage : Option StageUser) (taken : Option Time) :
    let s := closing stage taken
    s.supply.power = .running ∧ s.round.closePending = true ∧ s.round.missed = false ∧ s.round.participation ≠ .listen
      ∧ s.round.t0 + 600 * 3200 ≤ s.clock ∧ s.line.phase ≠ .frame ∧ s.line.phase ≠ .error ∧ s.share.waiting = none
      ∧ s.share.stage = stage ∧ s.share.stageTaken = taken :=
  ⟨rfl, rfl, rfl, by simp [closing, base], Nat.le_refl _, by simp [closing, base], by simp [closing, base], rfl, rfl, rfl⟩

/-- With the line-stuck flag set before, and a frame in progress (log 52). -/
theorem witness_CloseEventAssemblesView_stuck :
    let s : State := { closing none none with line := { base.line with stuck := true, phase := .error } }
    s.line.stuck = true ∧ s.line.phase = .error ∧ (after .closeEvent s).round.closePending = false := by decide +kernel

/-- The fill of the closing station is partial, that of a station that hears nobody is not. -/
theorem witness_CloseEventAssemblesView_recip :
    let t := after .closeEvent (closing none none)
    let u := after .closeEvent { closing none none with peers := {} }
    needsRecip t.peers.view t.share.budgetUsed = true ∧ t.share.budgetUsed = 150
      ∧ needsRecip u.peers.view u.share.budgetUsed = false ∧ u.share.budgetUsed = 0 := by decide +kernel

/-- R48: of two requests of one moment the share computation's is taken first, whichever command comes first; a later one waits. -/
theorem test_share_first :
    let swapped := (after .closeEvent (closing (some .test) (some (100000000 + 600 * 3200)))).share
    let waits := (after .closeEvent (closing (some .test) (some 100000000))).share
    swapped.stage = some .share ∧ swapped.waiting = some .test ∧ waits.stage = some .test ∧ waits.waiting = some .share := by
  decide +kernel

theorem witness_ComputationWritesOwnGrants :
    let s : State := { base with share := { base.share with inFlight := true } }
    s.supply.power = .running ∧ s.share.inFlight = true ∧ s.share.waiting ≠ some .share := by decide

/-- The computation in flight on an empty view, with both points waiting for it and a lowering owed. -/
def computing : State := { base with
  share := { base.share with inFlight := true }
  round := { base.round with owedLowering := true, raisingPending := true, raisingDue := true } }

/-- A lowering owed and a raising that waited; a test in flight that the lowering leaves uncovered. -/
theorem witness_ComputationWritesOwnGrants_points :
    let t : State := { testing .settle 10 with share := computing.share, round := { base.round with owedLowering := true } }
    computing.supply.power = .running ∧ computing.share.waiting ≠ some .share ∧ computing.round.owedLowering = true
      ∧ (after .shareComputationComplete computing).share.feedGrant = 0
      ∧ (after .shareComputationComplete computing).supply.sleepRequest = true
      ∧ t.test.context.map TestContext.request = some 3 ∧ (after .shareComputationComplete t).test.context = none := by decide +kernel

/-- At the lowering point, with the computation in flight or complete. -/
def lowering (b : Bool) : State := { base with
  clock := 100000000 + 650 * 3200
  round := { base.round with loweringPending := true }
  share := { base.share with inFlight := b } }

theorem witness_LoweringPointLowersGrants (b : Bool) :
    (lowering b).supply.power = .running ∧ (lowering b).round.loweringPending = true ∧ (lowering b).round.missed = false
      ∧ (lowering b).round.participation = .member ∧ (lowering b).round.t0 + 650 * 3200 ≤ (lowering b).clock
      ∧ (lowering b).share.inFlight = b ∧ (lowering b).round.closePending = false ∧ (lowering b).round.raisingDue = false
      ∧ (lowering b).conv.mode = .run ∧ (lowering b).drawsByGrant = true := by
  cases b <;> decide +kernel

/-- At the lowering point of an outage, the feed grant about to fall to 1, in a terminal state at a band. -/
def losing (m : TerminalMode) (b : Band) : State := { lowering false with
  share := { base.share with computedFeed := 1 }
  batt := { base.batt with band := b }
  term := { base.term with mode := m } }

/-- R144, R145: the draws of profile 1 are 3, 11 and 18 feed units. -/
theorem witness_LoweringPointLowersGrants_terminal (m : TerminalMode) (h : m ∈ [.hold, .booting, .active]) :
    (losing m .cutoff).test.context = none ∧ (losing m .cutoff).share.computedFeed < (losing m .cutoff).share.feedGrant
      ∧ (losing m .cutoff).supply.mains = .absent ∧ (losing m .cutoff).batt.band = .cutoff ∧ (losing m .cutoff).term.mode = m
      ∧ (losing m .cutoff).share.computedFeed < (losing m .cutoff).holdDraw
      ∧ (losing m .cutoff).holdDraw ≤ (losing m .cutoff).activeDraw ∧ (losing m .cutoff).activeDraw ≤ (losing m .cutoff).bootDraw
      ∧ (losing .active .reserve).term.demand = .idle ∧ (losing .active .reserve).term.wakePending = false
      ∧ (after .loweringPoint (losing .active .reserve)).term.mode = .hold := by
  simp at h
  rcases h with rfl | rfl | rfl <;> decide +kernel

/-- R139: a wake left pending in a terminal state at a band. -/
def waking (m : TerminalMode) (b : Band) (s : State) : State := { s with
  batt := { s.batt with band := b }
  term := { s.term with mode := m, offReason := .released, wakePending := true } }

/-- A lowering that leaves the boot draw of 18 covered, and one that does not. -/
theorem witness_LoweringPointLowersGrants_wake (n : Nat) (h : n ∈ [17, 18]) :
    let s : State := { waking .hold .reserve (lowering false) with
      share := { base.share with feedGrant := 20, computedFeed := n } }
    s.test.context = none ∧ s.share.computedFeed < s.share.feedGrant ∧ s.batt.band ≠ .unrated ∧ s.term.wakePending = true
      ∧ s.term.mode = .hold ∧ s.pins.ready = false ∧ s.bootDraw = 18
      ∧ ((after .loweringPoint s).term.mode = .booting ↔ n = 18) := by
  simp at h
  rcases h with rfl | rfl <;> decide +kernel

/-- A raising point that brings the boot draw of 18, and one that falls short of it, from HOLD and from OFF. -/
theorem witness_RaisingPointRaisesGrants_wake (m : TerminalMode) (h : m ∈ [.hold, .off]) (n : Nat) (h' : n ∈ [17, 18]) :
    let s : State := { waking m .reserve base with
      round := { base.round with raisingPending := true }
      share := { base.share with computedFeed := n } }
    s.term.wakePending = true ∧ s.share.feedGrant < s.share.computedFeed ∧ s.batt.band ≠ .unrated ∧ s.test.context = none
      ∧ s.term.mode = m ∧ s.pins.ready = false ∧ s.bootDraw = 18
      ∧ TerminalSafe s ∧ ((after .raisingPoint s).term.mode = .booting ↔ n = 18)
      ∧ ((after .raisingPoint s).term.wakePending = true ↔ n = 17) := by
  unfold TerminalSafe
  simp at h h'
  rcases h with rfl | rfl <;> rcases h' with rfl | rfl <;> decide +kernel

theorem witness_RaisingPointRaisesGrants_waits :
    let s : State := { base with
      round := { base.round with raisingPending := true }
      share := { base.share with inFlight := true } }
    s.supply.power = .running ∧ s.round.raisingPending = true ∧ s.round.missed = false ∧ s.round.participation = .member
      ∧ s.round.t0 + 700 * 3200 ≤ s.clock ∧ s.share.inFlight = true := by decide

theorem witness_RaisingPointRaisesGrants :
    let s : State := { base with round := { base.round with raisingPending := true } }
    s.supply.power = .running ∧ s.round.raisingPending = true ∧ s.round.missed = false ∧ s.round.participation = .member
      ∧ s.round.t0 + 700 * 3200 ≤ s.clock ∧ s.share.inFlight = false ∧ s.round.closePending = false
      ∧ s.round.loweringPending = false ∧ max s.share.feedGrant s.share.computedFeed ≤ s.ceiling := by decide +kernel

/-- A raising point at which a pulse test starts. -/
theorem witness_RaisingPointRaisesGrants_starts :
    let s : State := { base with
      round := { base.round with raisingPending := true }
      demand := { carryFormed := true, claims := some ⟨.test, 18, none, 1500, .absent⟩ }
      test := { base.test with carry := true } }
    s.supply.power = .running ∧ s.round.raisingPending = true ∧ s.term.wakePending = false ∧ s.test.carry = true ∧ s.test.context = none
      ∧ s.test.inHand = none ∧ max s.share.feedGrant s.share.computedFeed = (s.demand.claims.map RoundClaims.feedRequest).getD 0
      ∧ s.batt.band = .good ∧ s.term.mode = .hold ∧ s.conv.mode = .run ∧ s.supply.mains = .absent ∧ s.round.referenced = true
      ∧ s.line.confinement ≠ .offline ∧ (after .raisingPoint s).batt.charge = .opened := by decide +kernel

theorem witness_RoundAgeLimitClears :
    let s : State := { base with clock := 100000000 + 3 * 3200000 + 1 }
    s.supply.power = .running ∧ s.round.referenced = true ∧ s.round.participation ≠ .listen
      ∧ s.round.t0 + 3 * period s.round.tempo < s.clock := by decide

theorem witness_ClaimsWithinCeiling : ({ base with demand := { window := [4500] } } : State).chargeClaim = some (.topup, 10) := by
  decide +kernel

/-! ### Witnesses: the line -/

theorem witness_IdleAndEdgeBeginFrames :
    base.supply.power = .running ∧ base.supply.oscillator = .stable ∧ base.line.phase = .idle
      ∧ ({ base.line with phase := .integrating, recessiveRun := 9 } : LineState).integrated = true
      ∧ ({ base.line with phase := .gap, gapBits := 3 } : LineState).gapPassed = true ∧ base.supply.sleepRequest = false
      ∧ base.mayOffer = false ∧ ({ base with line := { base.line with queue := [frameA] } } : State).mayOffer = true
      ∧ ({ base.line with extraWait := .until base.clock } : LineState).extraWait = .until base.clock := by decide +kernel

/-- A transmitter that sampled dominant in its recessive kind bit, and one that sampled recessive in a dominant payload bit. -/
def sent (f : Frame) (bits : List Level) : State := { base with
  line := { phase := .frame, role := .transmitter, bitPos := some {}, rxBits := bits, queue := [f] } }

theorem witness_FrameErrorCountsAndFlags :
    (sent (.notice ownNotice) [.dominant, .dominant]).line.arbitrationLost = true
      ∧ (sent frameA ((lineBits frameA .recessive).take 13 ++ [.recessive])).line.errorSeen = some .bit
      ∧ ({ (sent frameA (List.replicate 5 .dominant)).line with role := .receiver } : LineState).errorSeen = some .stuff
      ∧ base.supply.power = .running := by decide +kernel

/-- A sampled bit at a transmitter, of each tag and as sent or not; at a receiver, in the stuffed region, where the fifth equal bit is an error,
and after each of its first tail bits. -/
theorem witness_FrameErrorCountsAndFlags_bits :
    compareSent (sentBits frameA) [] = .going ∧ (sentBits frameA)[0]? = some ⟨.plain, .dominant⟩
      ∧ compareSent (sentBits frameA) [.recessive] = .error
      ∧ (receive (List.replicate 4 .dominant)).fault = none ∧ (receive (List.replicate 4 .dominant)).inRegion = true
      ∧ (receive (List.replicate 5 .dominant)).fault = some .stuff
      ∧ (∀ n ∈ [0, 1, 2, 3, 8], (receive ((lineBits frameA .dominant).take (34 + n))).tail = n
          ∧ (receive ((lineBits frameA .dominant).take (34 + n))).inRegion = false
          ∧ (receive ((lineBits frameA .dominant).take (34 + n))).fault = none
          ∧ (receive ((lineBits frameA .dominant).take (34 + n))).done = false) := by decide +kernel

/-- R94, R95: a dominant check delimiter and a dominant end-field bit are form errors. -/
theorem test_form_errors :
    (receive ((lineBits frameA .dominant).take 34 ++ [.dominant])).fault = some .form
      ∧ (receive ((lineBits frameA .dominant).take 42 ++ [.dominant])).fault = some .form := by decide +kernel

/-- A QUIET transmitter whose attempt fails, and a QUIET receiver whose counts read as ACTIVE. -/
theorem witness_FrameErrorCountsAndFlags_quiet :
    let s : State := { sent frameA ((lineBits frameA .recessive).take 13 ++ [.recessive]) with
      line := { (sent frameA ((lineBits frameA .recessive).take 13 ++ [.recessive])).line with txErrors := 70, confinement := .quiet } }
    s.line.errorSeen = some .bit ∧ (after .frameError s).line.confinement = .quiet ∧ (after .frameError s).line.extraWait = .owed
      ∧ (after .frameError (sent frameA ((lineBits frameA .recessive).take 13 ++ [.recessive]))).line.confinement = .active := by
  decide +kernel

theorem witness_FrameErrorCountsAndFlags_offline :
    let s : State := { sent frameA ((lineBits frameA .recessive).take 13 ++ [.recessive]) with
      line := { (sent frameA ((lineBits frameA .recessive).take 13 ++ [.recessive])).line with txErrors := 152, confinement := .quiet } }
    s.line.errorSeen = some .bit ∧ s.line.confinement ≠ .offline ∧ (after .frameError s).line.confinement = .offline := by
  decide +kernel

/-- In an error delimiter of a number of bits (R99). -/
theorem witness_IdleAndEdgeBeginFrames_delimiter (b n : Nat) (h : b ∈ [2, 3]) (h' : n ∈ [1, 2]) :
    let s : State := { base with
      line := { phase := .error, bitPos := some {}, failed := n, queue := [frameA], extraWait := .owed
                error := some { kind := .bit, role := .transmitter, flag := .passive, progress := .delimiter b } } }
    s.supply.power = .running ∧ s.supply.oscillator = .stable ∧ s.line.phase = .error ∧ s.line.delimiterBits = b
      ∧ s.closeDue = false ∧ s.timerExpired = false ∧ s.line.failed = n ∧ s.line.extraWait ≠ .none := by
  simp at h h'
  rcases h with rfl | rfl <;> rcases h' with rfl | rfl <;> decide +kernel

/-- The eighth bit of an error delimiter. -/
def delimited (n : Nat) : State := { base with
  line := { phase := .error, bitPos := some {}, failed := n, queue := [frameA]
            error := some { kind := .bit, role := .transmitter, flag := .passive, progress := .delimiter 8 } } }

theorem witness_DelimiterEndOpensGap (n : Nat) (h : n ∈ [1, 2]) :
    (delimited n).supply.power = .running ∧ (delimited n).line.phase = .error ∧ 8 ≤ (delimited n).line.delimiterBits
      ∧ (delimited n).closeDue = false ∧ (delimited n).timerExpired = false ∧ (delimited n).line.failed = n := by
  simp at h
  rcases h with rfl | rfl <;> decide +kernel

/-- A close event and a round timer that wait for the delimiter's end, a valid completion 200 ms before it or not. -/
def delimitedWaiting (close expired : Bool) (v : Option Time) : State := { delimited 2 with
  round := { base.round with
    closePending := close, timer := if expired then some base.clock else base.round.timer, lastValid := v } }

theorem witness_DelimiterEndOpensGap_waiting (close expired : Bool) :
    let s := delimitedWaiting close expired none
    s.supply.power = .running ∧ s.line.phase = .error ∧ 8 ≤ s.line.delimiterBits ∧ s.closeDue = close ∧ s.timerExpired = expired
      ∧ (after .errorDelimiterEnd s).round.closePending = false
      ∧ (after .errorDelimiterEnd s).line.queue = if expired then [.opening { addr := 20, tempo := .fast, round := 62 }] else [] := by
  cases close <;> cases expired <;> decide +kernel

/-- Log 56: the close event comes before the expiry, so the opening frame in SLOW tempo with mains PRESENT reads the view outage mark just
written. -/
theorem test_close_before_expiry :
    let s : State := { delimitedWaiting true true none with
      supply := { base.supply with mains := .present }
      peers := { records := [(3, { feed := some ⟨.call, 100, 2, true⟩, outage := .absent })], present := 0x8#64 } }
    s.round.viewOutage = false
      ∧ (after .errorDelimiterEnd s).line.queue = [.opening { addr := 20, tempo := .fast, round := 62 }] := by decide +kernel

/-- R6: an expiry within 200 ms of the last valid completion sets the missed-round mark, one cycle later it places the opening frame. -/
theorem test_delimiter_expiry :
    (after .errorDelimiterEnd (delimitedWaiting false true (some (base.clock - 640000)))).round.missed = true
      ∧ (after .errorDelimiterEnd (delimitedWaiting false true (some (base.clock - 640001)))).round.missed = false
      ∧ (after .errorDelimiterEnd (delimitedWaiting false true (some (base.clock - 640001)))).line.queue ≠ [] := by decide +kernel

/-- An edge in the delimiter with both waiting, and the GAP that its end leads to. -/
theorem witness_IdleAndEdgeBeginFrames_waiting :
    let s := delimitedWaiting true true none
    s.supply.oscillator = .stable ∧ s.line.phase = .error ∧ 3 ≤ s.line.delimiterBits ∧ s.line.error.isSome = true
      ∧ (after .errorDelimiterEnd s).line.phase = .gap ∧ (after .startBitEdge s).line.phase = .frame := by decide +kernel

theorem witness_LineGuards :
    let d : LineState := { base.line with driver := .dominant, driveTime := 24 * 160 + 1 }
    let k : LineState := { base.line with dominantRun := 400 }
    let c : LineState := { base.line with stuck := true, clearingRun := 12 }
    let r : LineState := { base.line with confinement := .offline, recoveryRuns := 64 }
    base.supply.power = .running ∧ d.driver = .dominant ∧ 24 * 160 < d.driveTime ∧ d.confinement ≠ .offline
      ∧ 400 ≤ k.dominantRun ∧ k.stuck = false ∧ ({ base with line := k } : State).closeDue = false
      ∧ ({ base with line := k, round := { base.round with closePending := true } } : State).closeDue = true
      ∧ c.stuck = true ∧ 12 ≤ c.clearingRun ∧ r.confinement = .offline ∧ 64 ≤ r.recoveryRuns := by decide +kernel

/-- R105: a fault holds the driver of a station that may drive and its time is counted; in LISTEN it does not. -/
theorem witness_LineGuards_fault :
    let s : State := { base with pins := { driverFault := [true] } }
    let l : State := { s with round := { s.round with participation := .listen } }
    s.pending = [] ∧ s.supply.oscillator = .stable ∧ s.line.bitPos = some {} ∧ s.mayDrive = true
      ∧ (stepped s).line.driver = .dominant ∧ (stepped s).line.driveTime = 1
      ∧ l.mayDrive = false ∧ (stepped l).line.driver = .recessive := by decide +kernel

/-- R104, R107: on an IDLE line a frame still queued goes out at the return; with an empty queue the line stays IDLE. -/
theorem witness_LineGuards_return :
    let r (q : List Frame) : State := { base with
      line := { base.line with confinement := .offline, recoveryRuns := 64, txErrors := 160, queue := q } }
    (r []).line.phase = .idle ∧ ({ base with line := { base.line with queue := [frameA] } } : State).mayOffer = true
      ∧ (after .returnFromOffline (r [frameA])).line.role = .transmitter
      ∧ (after .returnFromOffline (r [])).line.phase = .idle
      ∧ (after .returnFromOffline (r [])).line.txErrors = 0 := by decide +kernel

/-! ### Witnesses: the converter -/

/-- A measurement event due, in a converter state and with a riser window. -/
def measuring (m : ConverterMode) (w : List Nat) : State := { base with conv := { base.conv with mode := m, window := w } }

theorem witness_MeasurementEventFeedsBlocks :
    base.supply.power = .running ∧ sample.wf = true ∧ base.conv.timeBase = some ⟨102240016, 102240000⟩ ∧ 102240000 ≤ base.clock
      ∧ base.test.context = none ∧ base.conv.mode = .run ∧ riserFit (pushWindow 16 base.conv.window sample.riserVoltage) = true
      ∧ riserFit (pushWindow 16 (measuring .run [1000]).conv.window sample.riserVoltage) = false
      ∧ (measuring .idle [1000]).conv.mode = .idle ∧ (measuring .idle [1000]).supply.mains = .absent
      ∧ riserFit (pushWindow 16 (measuring .idle [1000]).conv.window sample.riserVoltage) = false
      ∧ (measuring .held [1000]).conv.mode = .held := by decide +kernel

/-- The rows that lead to RUN, at the fit riser's edge of 30.00 V, and the charge switch kept closed and opened by an event. -/
theorem witness_MeasurementEventFeedsBlocks_rows :
    riserFit (pushWindow 16 (measuring .riserAbsent []).conv.window 3000) = true
      ∧ (measuring .riserAbsent []).conv.mode = .riserAbsent ∧ (measuring .idle []).supply.mains = .absent
      ∧ (measuring .disabled []).conv.mode = .disabled
      ∧ base.batt.charge = .closed ∧ (after (.measurementEvent sample) base).batt.charge = .closed
      ∧ (after (.measurementEvent { sample with riserVoltage := 0 }) (measuring .run [])).batt.charge = .opened := by decide +kernel

/-- R132: a charge current below the limit raises the conduction by a level. -/
theorem test_conduction_step : (after (.measurementEvent sample) base).batt.conduction = 1 := by decide +kernel

/-- The same states meet what a measurement event with a test in flight asks of converter, riser and time base, at the phase ends too. -/
theorem witness_PulseTestTakesSamples_event (n : Nat) (h : n ∈ [64, 200, 500]) :
    let s := testing (if n = 64 then .settle else if n = 200 then .load else .relax) n
    s.supply.power = .running ∧ s.conv.timeBase = some ⟨102240016, 102240000⟩ ∧ 102240000 ≤ s.clock ∧ s.conv.mode = .run
      ∧ riserFit (pushWindow 16 s.conv.window (min sample.riserVoltage 6553)) = true
      ∧ s.test.context.map TestContext.events = some n ∧ (testing .settle 63).batt.hold = false := by
  simp at h
  rcases h with rfl | rfl | rfl <;> decide +kernel

theorem witness_PulseTestTakesSamples :
    (testing .settle 63).test.context = some { worn with phase := .settle, events := 63 } ∧ (testing .settle 63).term.wakePending = false
      ∧ 63 < 64 ∧ 100 < (101 : Int).natAbs ∧ (-100 : Int).natAbs ≤ 100
      ∧ (testing .load 19).test.context = some { worn with phase := .load, events := 19 } ∧ 19 < 20
      ∧ (testing .load 199).test.context = some { worn with phase := .load, events := 199 } ∧ 20 ≤ 199 ∧ 199 < 200
      ∧ (testing .load 199).chemistry = .leadAcid ∧ 10999 < 11000 ∧ 11000 ≤ 11000
      ∧ (testing .relax 499).test.context = some { worn with phase := .relax, events := 499 } ∧ 499 < 500 := by decide +kernel

theorem witness_SwitchingPeriodAndRiserLowGate :
    let s : State := { base with clock := 102240016 }
    let r : State := { base with conv := { base.conv with onTime := .running 102240000 } }
    s.supply.power = .running ∧ s.conv.timeBase = some ⟨102240016, 102240000⟩ ∧ 102240016 ≤ s.clock
      ∧ r.conv.riserLowShut = false ∧ r.conv.onTime = .running 102240000 := by decide

/-- An on-time of a number of cycles, of 64 at most, with a command of 20. -/
def switching (n : Nat) : State := { base with conv := { base.conv with onTime := .running (102240000 - n), gateHigh := true } }

theorem witness_OnTimeEnds :
    (switching 20).supply.power = .running ∧ (switching 20).conv.mode = .run ∧ (switching 20).conv.onTime = .running 102239980
      ∧ (switching 20).conv.command ≤ (switching 20).clock - 102239980 ∧ 18000 * 16 ≤ 5000 * ((switching 58).clock - 102239942)
      ∧ (switching 58).conv.onTime = .running 102239942
      ∧ 400 * 10 ≤ 3125 * ((switching 2).clock - 102239998) ∧ (switching 2).conv.onTime = .running 102239998 := by decide

theorem witness_LatchesStopConverter (n : Nat) (h : n ∈ [0, 1, 2]) :
    let s : State := { base with conv := { base.conv with peakRun := 32, latchCount := n } }
    s.supply.power = .running ∧ s.conv.mode = .run ∧ 32 ≤ s.conv.peakRun ∧ s.conv.latchCount < 3
      ∧ ({ base with conv := { base.conv with mode := .idle } } : State).conv.mode ≠ .run := by
  simp at h
  rcases h with rfl | rfl | rfl <;> decide

theorem witness_IntervalBoundaryReleasesHeld :
    let s : State := { base with clock := 108480000, conv := { base.conv with mode := .held, feedSetpoint := 0, chargeSetpoint := 0 } }
    s.supply.power = .running ∧ s.conv.intervalTimer ≤ s.clock ∧ s.conv.mode = .held ∧ riserFit s.conv.window = true
      ∧ ({ s with clock := 108480000, conv := { s.conv with mode := .disabled } } : State).conv.mode ≠ .held := by decide

theorem witness_IntervalBoundaryReleasesHeld_safe :
    let s : State := { base with conv := { base.conv with mode := .held, feedSetpoint := 0, chargeSetpoint := 0 } }
    ConverterSafe s ∧ s.conv.mode = .held := by
  unfold ConverterSafe
  decide

/-- R122: a riser that has come back below the comparator's level before the boundary lets the converter run. -/
theorem test_riser_comes_back :
    let s : State := { base with
      clock := 108479999
      pins := { riserHigh := true, riserAhead := [false] }
      conv := { base.conv with mode := .held, feedSetpoint := 0, chargeSetpoint := 0 } }
    (after .intervalTimerExpiry { s.tick with clock := 108480000 }).conv.mode = .run
      ∧ (after .intervalTimerExpiry { s with clock := 108480000 }).conv.mode = .held := by decide +kernel

/-! ### Witnesses: the battery monitor -/

/-- An evaluation due on a window of one sample. -/
def evaluating (b : Band) (v : Nat) : State := { base with
  conv := { base.conv with chargeSetpoint := 0 }
  batt := { band := b, evalCount := 256, window := [v], discharge := if b = .cutoff then .opened else .closed } }

theorem witness_BandEvaluationSetsBand :
    (evaluating .good 10999).supply.power = .running ∧ 256 ≤ (evaluating .good 10999).batt.evalCount
      ∧ (evaluating .good 10999).batt.hold = false ∧ (evaluating .good 10999).batt.window ≠ []
      ∧ newBand (evaluating .good 10999).chemistry .good 10999 = .cutoff ∧ newBand (evaluating .cutoff 11100).chemistry .cutoff 11100 = .reserve
      ∧ ({ (evaluating .good 10999).batt with window := [] } : BatteryState).window = [] := by decide +kernel

/-- R127: an evaluation that would fall due in sleep. -/
theorem witness_BandEvaluationSetsBand_asleep :
    let s : State := { evaluating .good 10999 with supply := { base.supply with asleep := true } }
    s.supply.power = .running ∧ 256 ≤ s.batt.evalCount ∧ s.supply.asleep = true ∧ (evaluating .good 10999).supply.asleep = false
      ∧ (after .bandEvaluation s).batt.band = .good := by decide +kernel

theorem witness_BandEvaluationSetsBand_safe :
    TestSafe (evaluating .good 10999) ∧ DischargeSafe (evaluating .good 10999) ∧ DischargeSafe (evaluating .cutoff 11100) := by
  unfold TestSafe DischargeSafe
  decide +kernel

/-- An evaluation that changes the band of a terminal that acts: cutoff off, forced hold, and the rise from CUTOFF. -/
theorem witness_BandEvaluationSetsBand_terminal :
    let at' (b : Band) (v : Nat) (m : TerminalMode) : State := { evaluating b v with
      share := { base.share with feedGrant := 1 }
      term := { base.term with mode := m, offReason := .cutoff } }
    (at' .low 10999 .active).batt.band ≠ .unrated ∧ (at' .low 10999 .active).test.context = none
      ∧ (after .bandEvaluation (at' .low 10999 .active)).batt.band = .cutoff
      ∧ (after .bandEvaluation (at' .low 10999 .active)).term.mode = .off
      ∧ (after .bandEvaluation (at' .low 11500 .active)).batt.band = .reserve
      ∧ (after .bandEvaluation (at' .low 11500 .active)).term.mode = .hold
      ∧ (after .bandEvaluation (at' .cutoff 11500 .off)).batt.band = .reserve
      ∧ (after .bandEvaluation (at' .cutoff 11500 .off)).term.mode = .hold
      ∧ (after .bandEvaluation (at' .good 12000 .active)).batt.band = .low
      ∧ (after .bandEvaluation (at' .good 12000 .active)).term.mode = .active := by decide +kernel

/-- R139: a pending wake at the evaluation that lifts the band to LOW, and at the rise from CUTOFF, where it is made only on its grant. -/
theorem witness_BandEvaluationSetsBand_wake :
    let low := waking .hold .reserve (evaluating .reserve 12000)
    let rise (n : Nat) : State := { evaluating .cutoff 11100 with
      share := { base.share with feedGrant := n }
      term := { base.term with mode := .off, offReason := .cutoff, wakePending := true } }
    low.term.wakePending = true ∧ low.term.mode = .hold ∧ low.pins.ready = false ∧ low.test.context = none
      ∧ (after .bandEvaluation low).batt.band = .low ∧ (after .bandEvaluation low).term.mode = .booting
      ∧ (after .bandEvaluation low).term.wakeMark = true
      ∧ (after .bandEvaluation (rise 18)).term.mode = .booting ∧ (after .bandEvaluation (rise 17)).term.mode = .hold
      ∧ (after .bandEvaluation (rise 17)).term.wakePending = true := by decide +kernel

/-- The first evaluation at RESERVE, with a wake made on EMERGENCY and one left pending. -/
theorem witness_FirstEvaluationLeavesStart_reserve :
    let s (level : DemandLevel) : State := { evaluating .unrated 11500 with
      share := { base.share with feedGrant := 0 }
      term := { candidate := level, demand := level } }
    (s .wanted).supply.mains = .absent ∧ (after .bandEvaluation (s .wanted)).batt.band = .reserve ∧ (s .wanted).share.feedGrant < (s .wanted).bootDraw
      ∧ (after .bandEvaluation (s .wanted)).term.wakePending = true ∧ (after .bandEvaluation (s .emergency)).term.mode = .booting := by
  decide +kernel

theorem witness_FirstEvaluationLeavesStart :
    let s : State := { evaluating .unrated 12000 with term := { candidate := .wanted, demand := .wanted } }
    s.supply.power = .running ∧ 256 ≤ s.batt.evalCount ∧ s.batt.hold = false ∧ s.batt.window ≠ [] ∧ s.batt.band = .unrated
      ∧ s.test.context = none ∧ s.pins.ready = false ∧ s.term.mode = .off ∧ s.term.offReason = .start
      ∧ s.supply.mains = .absent ∧ s.term.demand ≠ .idle := by decide +kernel

/-! ### Witnesses: the test unit -/

theorem witness_TestDueAndPhaseEnds :
    base.supply.power = .running ∧ base.test.schedule = some 102240000 ∧ 102240000 ≤ base.clock
      ∧ (testing .settle 64).test.context = some { worn with phase := .settle, events := 64 }
      ∧ (testing .load 200).test.context = some { worn with phase := .load, events := 200 } := by decide +kernel

theorem witness_TestDoneHandsResult :
    let s := testing .relax 500
    s.supply.power = .running ∧ s.test.context = some worn ∧ worn.phase = .relax ∧ worn.events = 500 ∧ s.batt.hold = true
      ∧ s.test.inHand = none ∧ s.term.wakePending = false ∧ 500 ≤ worn.iLoad - worn.iRest ∧ worn.iLoad - worn.iRest ≤ 16383
      ∧ s.share.stage = none ∧ ({ worn with iLoad := 514 } : TestContext).iLoad - worn.iRest < 500 := by decide +kernel

/-- R139: a wake left pending by the test is made at its end at GOOD, and stays pending at RESERVE below its grant. -/
theorem witness_TestDoneHandsResult_wake (m : TerminalMode) (h : m ∈ [.hold, .off]) :
    (waking m .good (testing .relax 500)).term.wakePending = true ∧ (waking m .good (testing .relax 500)).term.mode = m
      ∧ (waking m .good (testing .relax 500)).pins.ready = false ∧ (waking m .good (testing .relax 500)).test.context = some worn
      ∧ (after .testDone (waking m .good (testing .relax 500))).term.mode = .booting
      ∧ (after .testDone (waking m .reserve (testing .relax 500))).term.wakePending = true := by
  simp at h
  rcases h with rfl | rfl <;> decide +kernel

theorem witness_TestDoneHandsResult_waits :
    let s : State := { testing .relax 500 with share := { base.share with stage := some .share } }
    s.share.stage = some .share ∧ s.test.context = some worn ∧ (after .testDone s).share.waiting = some .test := by decide +kernel

/-- R155: the next due time is written also when a mains return has dropped the schedule. -/
theorem test_due_after_mains_return :
    let s : State := { base with
      share := { base.share with stage := some .test }
      test := { inHand := some { deltaV := 120, deltaI := 2000, startBand := .good, startTime := 100000000 } } }
    (after .resistanceComputed s).test.schedule = some (100000000 + 14400 * 3200000) := by decide +kernel

theorem witness_ResistanceWritesRecord :
    let s : State := { base with
      share := { base.share with stage := some .test }
      test := { base.test with inHand := some { deltaV := 120, deltaI := 2000, startBand := .good, startTime := 100000000 } } }
    s.supply.power = .running ∧ s.share.stage = some .test ∧ s.test.schedule.isSome = true
      ∧ s.test.inHand = some { deltaV := 120, deltaI := 2000, startBand := .good, startTime := 100000000 } := by decide

/-! ### Witnesses: the terminal interface -/

theorem witness_DemandLevelIsTaken :
    let s : State := { base with term := { base.term with candidate := .session, candidateSince := base.clock - 64000 } }
    s.supply.power = .running ∧ s.term.candidate ≠ s.term.demand ∧ s.term.candidateSince + 20 * 3200 ≤ s.clock ∧ s.batt.band = .good
      ∧ s.term.mode = .hold ∧ s.test.context = none ∧ s.pins.ready = false ∧ s.term.candidate ≠ .idle
      ∧ DemandLevel.idle ≠ s.term.candidate := by decide

/-- A level taken in a terminal state, at a band. -/
def taking (m : TerminalMode) (r : OffReason) (b : Band) (level : DemandLevel) : State := { base with
  batt := { base.batt with band := b }
  term := { mode := m, offReason := r, candidate := level, candidateSince := base.clock - 64000
            demand := if level = .idle then .wanted else .idle } }

/-- R138, R139, R141: wakes made and pending from FAULT, OFF (RETRY) and OFF (CUTOFF), at RESERVE and CUTOFF. -/
theorem witness_DemandLevelIsTaken_wakes :
    (taking .fault .start .reserve .emergency).term.mode = .fault ∧ (taking .fault .start .reserve .wanted).term.candidate ≠ .emergency
      ∧ (taking .off .retry .reserve .idle).term.offReason = .retry ∧ (taking .off .cutoff .cutoff .wanted).term.offReason = .cutoff
      ∧ ¬ (taking .off .cutoff .cutoff .wanted).bootDraw ≤ (taking .off .cutoff .cutoff .wanted).share.feedGrant
      ∧ (taking .off .cutoff .cutoff .wanted).term.candidate ≠ (taking .off .cutoff .cutoff .wanted).term.demand
      ∧ (taking .off .retry .reserve .idle).term.candidate ≠ (taking .off .retry .reserve .idle).term.demand
      ∧ (taking .fault .start .reserve .emergency).test.context = none ∧ (taking .hold .start .unrated .wanted).batt.band = .unrated := by
  decide +kernel

/-- R139: a wake pending in OFF (RELEASED) is made at a newly taken EMERGENCY at RESERVE. -/
theorem witness_DemandLevelIsTaken_pending :
    let s := waking .off .reserve (taking .off .released .reserve .emergency)
    s.term.wakePending = true ∧ s.term.mode = .off ∧ s.term.offReason = .released ∧ s.term.candidate ≠ s.term.demand
      ∧ s.test.context = none ∧ s.pins.ready = false ∧ (after .demandLevelTaken s).term.mode = .booting := by decide +kernel

/-- FAULT leaves on EMERGENCY at RESERVE, and is released with the wake pending on WANTED. -/
theorem test_fault_leaves :
    (after .demandLevelTaken (taking .fault .start .reserve .emergency)).term.mode = .booting
      ∧ (after .demandLevelTaken (taking .fault .start .reserve .wanted)).term.mode = .off
      ∧ (after .demandLevelTaken (taking .fault .start .reserve .wanted)).term.offReason = .released := by decide +kernel

/-- R136's table, low line first. -/
theorem test_demand_lines : [(false, false), (false, true), (true, false), (true, true)].map
    (fun x => demandLevelOf { high := x.1, low := x.2 }) = [.idle, .wanted, .session, .emergency] := by decide

/-- A terminal BOOTING for a time. -/
def booting (n : Nat) : State := { base with
  term := { base.term with mode := .booting, bootTimer := some (102240000 - n), wakeMark := true } }

theorem witness_ReadyLineMovesTerminal :
    (booting 1000).supply.power = .running ∧ (booting 1000).supply.asleep = false ∧ (booting 1000).term.mode = .booting
      ∧ (booting 1000).term.bootTimer = some 102239000
      ∧ (booting 1000).clock - 102239000 ≤ (booting 1000).bootLimit * 3200000
      ∧ (booting 1000).batt.band ≠ .reserve ∧ (booting 1000).batt.band ≠ .cutoff
      ∧ ({ base with term := { base.term with mode := .active } } : State).term.mode = .active ∧ base.term.mode ≠ .active := by
  decide +kernel

/-- R140, R144, R145: a ready seen in an outage at RESERVE and CUTOFF, with a feed grant of the ACTIVE draw of 11 and one below it. -/
theorem witness_ReadyLineMovesTerminal_short (b : Band) (h : b ∈ [.reserve, .cutoff]) (n : Nat) (h' : n ∈ [10, 11]) :
    let s : State := { booting 1000 with
      batt := { base.batt with band := b }
      share := { base.share with feedGrant := n } }
    s.supply.mains = .absent ∧ s.batt.band = b ∧ s.term.demand = .idle ∧ s.activeDraw = 11
      ∧ (after .readySeen s).term.mode = (if n = 11 then .active else if b = .reserve then .hold else .off)
      ∧ (after .readySeen s).test.results.length = 1 := by
  simp at h h'
  rcases h with rfl | rfl <;> rcases h' with rfl | rfl <;> decide +kernel

/-- Outside BOOTING, awake and asleep, at either level of the line. -/
theorem witness_ReadyLineMovesTerminal_elsewhere (asleep ready : Bool) :
    let s : State := { base with
      supply := { base.supply with asleep := asleep }
      pins := { ready := ready }
      term := { base.term with mode := if asleep then .active else .hold } }
    s.supply.power = .running ∧ s.supply.asleep = asleep ∧ s.pins.ready = ready ∧ s.term.mode ≠ .booting := by
  cases asleep <;> cases ready <;> decide

/-- R141: of ready and timeout at the boot limit itself, ready taken first makes the terminal ACTIVE, and no timeout follows. -/
theorem test_ready_at_the_limit :
    let s : State := { booting 0 with clock := 102240000 + 60 * 3200000 }
    (after .bootTimeout (after .readySeen s)).term.mode = .active := by decide +kernel

theorem witness_BootTimeoutRetriesThenFaults :
    let s : State := { booting 0 with clock := 102240000 + 60 * 3200000 }
    s.supply.power = .running ∧ s.term.mode = .booting ∧ s.term.bootTimer = some 102240000
      ∧ ([45, 60, 90, 120][s.profile]?).getD 0 * 3200000 ≤ s.clock - 102240000 ∧ s.term.retryCount = 0 := by decide +kernel

theorem witness_TerminalTimersExpire :
    let r : State := { base with term := { mode := .off, offReason := .retry, retryWait := some base.clock } }
    let i : State := { base with term := { mode := .active, idleTimer := some (base.clock - 120 * 320000) }, clock := 451000000 }
    r.supply.power = .running ∧ r.term.mode = .off ∧ r.term.offReason = .retry ∧ r.term.retryWait = some base.clock
      ∧ base.clock ≤ r.clock ∧ r.supply.sleepRequest = false ∧ r.test.context = none ∧ r.pins.ready = false
      ∧ ({ r with supply := { r.supply with mains := .present } } : State).supply.mains = .present
      ∧ r.supply.mains = .absent ∧ ({ r with batt := { r.batt with band := .reserve } } : State).batt.band = .reserve
      ∧ r.term.demand ≠ .emergency ∧ r.share.feedGrant < r.bootDraw
      ∧ i.term.mode = .active ∧ i.term.idleTimer = some 63840000 ∧ 63840000 + 120 * 3200000 ≤ i.clock ∧ i.test.context = none
      ∧ base.term.keepAlive = some 102240000 ∧ 102240000 ≤ base.clock ∧ base.term.mode = .hold ∧ base.batt.band = .good := by
  decide +kernel

theorem witness_TerminalTimersExpire_others :
    let i : State := { testing .load 100 with
      term := { mode := .active, idleTimer := some (base.clock - 120 * 320000), keepAlive := some base.clock }, clock := 451000000 }
    i.supply.power = .running ∧ i.test.context ≠ none ∧ i.term.mode = .active ∧ i.term.mode ≠ .hold ∧ i.term.keepAlive = some base.clock
      ∧ base.clock ≤ i.clock ∧ i.term.idleTimer = some 63840000 ∧ 63840000 + 120 * 3200000 ≤ i.clock := by decide +kernel

/-- R139, R147: a keep-alive time in HOLD at a band, with a feed grant of 3 below the boot draw of 18, and a retry wait that ends there. -/
theorem witness_TerminalTimersExpire_gated (b : Band) (h : b ∈ [.full, .good, .low, .reserve, .cutoff]) :
    let k : State := { base with batt := { base.batt with band := b } }
    let r : State := { k with term := { mode := .off, offReason := .retry, retryWait := some base.clock } }
    k.term.mode = .hold ∧ k.batt.band ≠ .unrated ∧ k.test.context = none ∧ k.pins.ready = false ∧ k.share.feedGrant < k.bootDraw
      ∧ (after .keepAliveTime k).term.mode = (if b = .reserve ∨ b = .cutoff then .hold else .booting)
      ∧ (after .keepAliveTime k).term.wakePending = decide (b = .reserve ∨ b = .cutoff)
      ∧ (after .retryWaitExpiry r).term.mode = (if b = .reserve ∨ b = .cutoff then .off else .booting) := by
  simp at h
  rcases h with rfl | rfl | rfl | rfl | rfl <;> decide +kernel

/-- A keep-alive time before the first band evaluation, and one with a test in flight. -/
theorem witness_TerminalTimersExpire_held :
    let u : State := { base with batt := { base.batt with band := .unrated } }
    let t : State := { testing .load 100 with term := base.term }
    u.batt.band = .unrated ∧ (after .keepAliveTime u).term.wakePending = false ∧ t.test.context ≠ none ∧ t.term.mode = .hold
      ∧ (after .keepAliveTime t).term.wakePending = true := by decide +kernel

/-! ### Witnesses: the status reporter -/

theorem witness_StatusFramesAreSent :
    let m : State := { base with round := { base.round with participation := .muted, reportPending := true } }
    let e : State := { base with status := { frame := some ⟨List.replicate 20 0, base.clock - 66667⟩, pending := true } }
    let r : State := { base with
      round := { base.round with referenced := false }
      status := { repeatTimer := some base.clock } }
    m.supply.power = .running ∧ m.supply.oscillator = .stable ∧ m.status.frame = none ∧ m.round.participation = .muted
      ∧ m.round.reportPending = true ∧ m.round.t0 + 700 * 3200 ≤ m.clock
      ∧ e.supply.sleepRequest = false ∧ e.status.frame = some ⟨List.replicate 20 0, 102173333⟩
      ∧ 10000 * (List.replicate 20 (0 : Byte)).length ≤ 3 * (e.clock - 102173333)
      ∧ r.status.frame = none ∧ r.status.repeatTimer = some base.clock ∧ base.clock ≤ r.clock ∧ r.supply.asleep = false
      ∧ r.batt.band ≠ .unrated ∧ r.round.referenced = false := by decide +kernel

/-- The repeat timer's start, stop and standing: a LISTEN station at its first evaluation, one that takes a reference, one that does neither. -/
theorem witness_StatusFramesAreSent_repeat :
    let e : State := { evaluating .unrated 12000 with round := {} }
    let l : State := { heard frameA .receiver with round := {}, status := { repeatTimer := some (base.clock + 9) } }
    let o : Opening := { addr := 2, tempo := .fast, round := 18 }
    e.round.referenced = false ∧ e.status.repeatTimer = none ∧ e.batt.band = .unrated
      ∧ (after .bandEvaluation e).status.repeatTimer = some (e.clock + 3200000)
      ∧ l.supply.asleep = false ∧ l.batt.band ≠ .unrated ∧ l.round.participation = .listen
      ∧ (after (.openingFrame o) l).status.repeatTimer = none
      ∧ (after .statusFrameEnd l).status.repeatTimer = some (base.clock + 9) := by decide +kernel

theorem witness_StatusFrameLayout : base.test.results.length ≤ 4 ∧ base.share.budgetUsed < 65536 := by decide

/-- Bit times 9 and 10 of a frame of two bytes: the first stop bit and the second start bit, 3,000 and 3,333.3 cycles after the frame began. -/
theorem witness_StatusFrameLayout_line (n : Nat) (h : n ∈ [9, 10, 20]) :
    let s : State := { base with status := { frame := some ⟨[0xA5, 18], base.clock - (1000 * n + 2) / 3⟩ } }
    1000 * n ≤ 3 * (s.clock - (base.clock - (1000 * n + 2) / 3)) ∧ 3 * (s.clock - (base.clock - (1000 * n + 2) / 3)) < 1000 * (n + 1)
      ∧ s.statusLevel = decide (n ≠ 10) := by
  simp at h
  rcases h with rfl | rfl | rfl <;> decide +kernel

/-! ### Witnesses: the invariants -/

/-- The invariants hold of a running station with a command waiting, and its step answers a next state. -/
theorem witness_invariants_step :
    let s : State := { base with pending := [.raisingPoint] }
    ∃ t, step s = .next t := ⟨_, rfl⟩

theorem witness_StepKeepsLineSafe : DriverSafe base ∧ ConfinementAgrees base := by
  unfold DriverSafe ConfinementAgrees
  decide +kernel

theorem witness_StepKeepsConverterSafe : ConverterSafe base ∧ GatesExclusive base ∧ SetpointsWithinTargets base := by
  unfold ConverterSafe GatesExclusive SetpointsWithinTargets
  decide +kernel

theorem witness_StepKeepsTestSafe : TestSafe (testing .load 100) ∧ TestConditions (testing .load 100) := by
  unfold TestSafe TestConditions
  decide +kernel

theorem witness_StepKeepsBatterySwitches : DischargeSafe base ∧ ChargeSafe base ∧ TestSafe base := by
  unfold DischargeSafe ChargeSafe TestSafe
  decide +kernel

theorem witness_StepKeepsGrantsCleared : GrantsCleared { base with round := {}, share := {} } ∧ GrantsCleared base := by
  unfold GrantsCleared
  decide +kernel

theorem witness_StepKeepsQueueSafe :
    QueueSafe { base with
      round := { base.round with closePending := true }
      line := { base.line with queue := [frameA, .notice ownNotice] } } := by
  unfold QueueSafe QueueShape
  decide +kernel

theorem witness_StepKeepsPeersSafe : PeersSafe base := by
  unfold PeersSafe recordsSorted
  decide +kernel

theorem witness_StepKeepsTerminalSafe : TerminalSafe (booting 10) := by
  unfold TerminalSafe
  decide +kernel

/-- The highest holdover and the most events of a phase are in range. -/
theorem witness_StepKeepsCountsInRange : CountsInRange (testing .relax 500) ∧ ResultsBounded (testing .relax 500) := by
  unfold CountsInRange LineRanges ConverterRanges BatteryRanges PeerRanges SlotRange EventsInPhase ResultsBounded
  decide +kernel

end Sys2Proof.Tests
end

section
/-! The reciprocal stage (R44 to R47): normalisation, seed, refinement and scaling, each with its own bounds, and the two statements about
RECIP assembled from them. -/

namespace Sys2Proof.Machine

/-! ### Normalisation (R44) -/

theorem recipZeros_le (d : Nat) : recipZeros d ≤ 15 := Nat.sub_le ..

/-- D has 16 - z significant bits. -/
theorem log2_add_recipZeros {d : Nat} (hd : d < 2 ^ 16) : Nat.log2 d + recipZeros d = 15 := by
  have hlog : Nat.log2 d ≤ 15 := by
    rcases Nat.eq_zero_or_pos d with rfl | hpos
    · decide
    · exact Nat.le_of_lt_succ ((Nat.log2_lt (Nat.ne_of_gt hpos)).2 hd)
  exact Nat.add_sub_cancel' hlog

theorem two_pow_le_of_recipZeros {d : Nat} (hpos : 1 ≤ d) (hd : d < 2 ^ 16) : 2 ^ (15 - recipZeros d) ≤ d := by
  rw [← log2_add_recipZeros hd, Nat.add_sub_cancel]
  exact Nat.log2_self_le (by omega)

theorem lt_two_pow_of_recipZeros {d : Nat} (hd : d < 2 ^ 16) : d < 2 ^ (16 - recipZeros d) := by
  have hbits : 16 - recipZeros d = Nat.log2 d + 1 := by
    have := log2_add_recipZeros hd
    omega
  rw [hbits]
  exact Nat.lt_log2_self

/-- The stage is given fewer than 15 bits, so at least two of the 16 are leading zeros. -/
theorem two_le_recipZeros {d : Nat} (hpos : 1 ≤ d) (hd : d ≤ 16383) : 2 ≤ recipZeros d := by
  have hlog : Nat.log2 d < 14 := (Nat.log2_lt (by omega)).2 (by omega)
  have := log2_add_recipZeros (d := d) (by omega)
  omega

theorem two_pow_fifteen_le_recipNormal {d : Nat} (hpos : 1 ≤ d) (hd : d < 2 ^ 16) : 2 ^ 15 ≤ recipNormal d :=
  calc 2 ^ 15 = 2 ^ (15 - recipZeros d) * 2 ^ recipZeros d := by
        rw [← Nat.pow_add, Nat.sub_add_cancel (recipZeros_le d)]
    _ ≤ recipNormal d := Nat.mul_le_mul_right _ (two_pow_le_of_recipZeros hpos hd)

theorem recipNormal_lt_two_pow_sixteen {d : Nat} (hd : d < 2 ^ 16) : recipNormal d < 2 ^ 16 :=
  calc recipNormal d < 2 ^ (16 - recipZeros d) * 2 ^ recipZeros d :=
        Nat.mul_lt_mul_of_pos_right (lt_two_pow_of_recipZeros hd) (Nat.two_pow_pos _)
    _ = 2 ^ 16 := by rw [← Nat.pow_add, Nat.sub_add_cancel (Nat.le_succ_of_le (recipZeros_le d))]

/-- The top bit of 16 is set in every normalised value. -/
theorem recipNormal_range {d : Nat} (hpos : 1 ≤ d) (hd : d ≤ 16383) : 32768 ≤ recipNormal d ∧ recipNormal d ≤ 65535 :=
  ⟨two_pow_fifteen_le_recipNormal hpos (by omega), Nat.le_of_lt_succ (recipNormal_lt_two_pow_sixteen (by omega))⟩

/-- Two leading zeros: the normalised value is at least four times D. -/
theorem four_mul_le_recipNormal {d : Nat} (hpos : 1 ≤ d) (hd : d ≤ 16383) : 4 * d ≤ recipNormal d := by
  have hpow : 2 ^ 2 ≤ 2 ^ recipZeros d := Nat.pow_le_pow_right (by decide) (two_le_recipZeros hpos hd)
  calc 4 * d = d * 2 ^ 2 := by omega
    _ ≤ recipNormal d := Nat.mul_le_mul_left d hpow

/-! ### The seed (R45) -/

/-- The index k of a normalised value: the four bits below its top bit (R45). -/
def recipIndex (m : Nat) : Nat := m / 2048 - 16

/-- The sixteen seeds (R45). -/
def recipSeedAt (k : Nat) : Nat := 2 ^ 21 / (k + 17)

theorem recipSeed_eq (m : Nat) : recipSeed m = recipSeedAt (recipIndex m) := rfl

/-- k numbers the sixteenth of the range in which the normalised value lies. -/
theorem recipIndex_spec {m : Nat} (hlo : 32768 ≤ m) (hhi : m ≤ 65535) :
    recipIndex m ≤ 15 ∧ 2048 * (recipIndex m + 16) ≤ m ∧ m < 2048 * (recipIndex m + 17) := by
  unfold recipIndex
  omega

theorem recipIndex_lower_end (k : Nat) : recipIndex (2048 * (k + 16)) = k := by
  unfold recipIndex
  omega

theorem recipSeedAt_pos {k : Nat} (hk : k ≤ 15) : 0 < recipSeedAt k :=
  Nat.div_pos (by omega) (by omega)

theorem recipSeedAt_lt (k : Nat) : recipSeedAt k < 2 ^ 17 := by
  unfold recipSeedAt
  exact Nat.div_lt_of_lt_mul (by omega)

/-- The seed is taken at the upper end of the sixteenth, so it is never too large. -/
theorem upper_end_mul_recipSeedAt_le (k : Nat) : 2048 * (k + 17) * recipSeedAt k ≤ 2 ^ 32 :=
  calc 2048 * (k + 17) * recipSeedAt k = 2048 * ((k + 17) * recipSeedAt k) := Nat.mul_assoc ..
    _ ≤ 2048 * 2 ^ 21 := Nat.mul_le_mul_left _ (Nat.mul_div_le ..)
    _ = 2 ^ 32 := by decide

theorem mul_recipSeed_lt {m : Nat} (hlo : 32768 ≤ m) (hhi : m ≤ 65535) : m * recipSeed m < 2 ^ 32 := by
  obtain ⟨hk, -, hupper⟩ := recipIndex_spec hlo hhi
  exact Nat.lt_of_lt_of_le (Nat.mul_lt_mul_of_pos_right hupper (recipSeedAt_pos hk)) (upper_end_mul_recipSeedAt_le _)

/-- What the seed of index k falls short by at the lower end of its sixteenth, where it falls short most, in parts of 2^32. -/
def recipSeedGap (k : Nat) : Nat := 2 ^ 32 - 2048 * (k + 16) * recipSeedAt k

theorem sub_lower_end_mul_recipSeed (k : Nat) :
    2 ^ 32 - 2048 * (k + 16) * recipSeed (2048 * (k + 16)) = recipSeedGap k := by
  rw [recipSeed_eq, recipIndex_lower_end, recipSeedGap]

theorem sub_mul_recipSeed_le {m : Nat} (hlo : 32768 ≤ m) (hhi : m ≤ 65535) :
    2 ^ 32 - m * recipSeed m ≤ recipSeedGap (recipIndex m) := by
  obtain ⟨-, hlower, -⟩ := recipIndex_spec hlo hhi
  exact Nat.sub_le_sub_left (Nat.mul_le_mul_right _ hlower) _

/-- Over the table of sixteen seeds, none falls short by 6 %. -/
theorem recipSeedGap_lt : ∀ k ≤ 15, recipSeedGap k * 100 < 6 * 2 ^ 32 := by decide

/-- Over the table of sixteen seeds, the square of the shortfall leaves room below 0.36 % for the refinement's truncation (at most m), and below
0.4 % for the scaling's too (at most 64 m). -/
theorem recipSeedGap_sq_le : ∀ k ≤ 15,
    (recipSeedGap k ^ 2 + 2048 * (k + 17) * 2 ^ 32) * 10000 ≤ 36 * 2 ^ 64
      ∧ (recipSeedGap k ^ 2 + 65 * (2048 * (k + 17)) * 2 ^ 32) * 1000 ≤ 4 * 2 ^ 64 := by decide

/-! ### The refinement (R46) -/

/-- With m × y = (1 - e) × 2^32, the product before truncation is (1 - e) × (1 + e) × 2^64. -/
theorem mul_refinement_product {m y : Nat} (h : m * y ≤ 2 ^ 32) :
    m * (y * (2 ^ 33 - m * y)) + (2 ^ 32 - m * y) ^ 2 = 2 ^ 64 := by
  obtain ⟨e, he⟩ := Nat.exists_eq_add_of_le h
  have hgap : 2 ^ 32 - m * y = e := by omega
  have hdiff : 2 ^ 33 - m * y = m * y + e + e := by omega
  calc m * (y * (2 ^ 33 - m * y)) + (2 ^ 32 - m * y) ^ 2 = m * (y * (m * y + e + e)) + e ^ 2 := by rw [hgap, hdiff]
    _ = (m * y + e) * (m * y + e) := by
        rw [← Nat.mul_assoc, Nat.pow_two, Nat.mul_add, Nat.mul_add, Nat.mul_add, Nat.add_mul, Nat.add_mul, Nat.mul_comm e (m * y)]
        omega
    _ = 2 ^ 32 * 2 ^ 32 := by rw [← he]
    _ = 2 ^ 64 := by decide

/-- The refined value is never too large. -/
theorem mul_recipRefine_le {m y : Nat} (h : m * y ≤ 2 ^ 32) : m * recipRefine m y ≤ 2 ^ 32 := by
  have hproduct := mul_refinement_product h
  have htrunc : m * (recipRefine m y * 2 ^ 32) ≤ m * (y * (2 ^ 33 - m * y)) :=
    Nat.mul_le_mul_left m (Nat.div_mul_le_self ..)
  rw [← Nat.mul_assoc m (recipRefine m y)] at htrunc
  omega

/-- The refined value falls short by the square of the seed's shortfall, and by at most m for the truncation. -/
theorem sub_mul_recipRefine_le {m y : Nat} (h : m * y ≤ 2 ^ 32) :
    (2 ^ 32 - m * recipRefine m y) * 2 ^ 32 ≤ (2 ^ 32 - m * y) ^ 2 + m * 2 ^ 32 := by
  have hproduct := mul_refinement_product h
  have htrunc : m * (y * (2 ^ 33 - m * y)) ≤ m * (recipRefine m y * 2 ^ 32 + 2 ^ 32) :=
    Nat.mul_le_mul_left m (Nat.le_of_lt (Nat.lt_div_mul_add (by decide)))
  rw [Nat.mul_add, ← Nat.mul_assoc m (recipRefine m y)] at htrunc
  omega

theorem sub_mul_recipRefine_recipSeed_le {m : Nat} (hlo : 32768 ≤ m) (hhi : m ≤ 65535) :
    (2 ^ 32 - m * recipRefine m (recipSeed m)) * 2 ^ 32 ≤ recipSeedGap (recipIndex m) ^ 2 + m * 2 ^ 32 :=
  calc _ ≤ (2 ^ 32 - m * recipSeed m) ^ 2 + m * 2 ^ 32 := sub_mul_recipRefine_le (Nat.le_of_lt (mul_recipSeed_lt hlo hhi))
    _ ≤ _ := Nat.add_le_add_right (Nat.pow_le_pow_left (sub_mul_recipSeed_le hlo hhi) 2) _

theorem recipRefine_recipSeed_short {m : Nat} (hlo : 32768 ≤ m) (hhi : m ≤ 65535) :
    (2 ^ 32 - m * recipRefine m (recipSeed m)) * 10000 ≤ 36 * 2 ^ 32 := by
  obtain ⟨hk, -, hupper⟩ := recipIndex_spec hlo hhi
  have hshort := sub_mul_recipRefine_recipSeed_le hlo hhi
  have hsquare : (2 ^ 32 - m * recipRefine m (recipSeed m)) * 2 ^ 32
      ≤ recipSeedGap (recipIndex m) ^ 2 + 2048 * (recipIndex m + 17) * 2 ^ 32 :=
    Nat.le_trans hshort (Nat.add_le_add_left (Nat.mul_le_mul_right _ (Nat.le_of_lt hupper)) _)
  obtain ⟨htable, -⟩ := recipSeedGap_sq_le _ hk
  refine Nat.le_of_mul_le_mul_right (c := 2 ^ 32) ?_ (by decide)
  calc (2 ^ 32 - m * recipRefine m (recipSeed m)) * 10000 * 2 ^ 32
      = (2 ^ 32 - m * recipRefine m (recipSeed m)) * 2 ^ 32 * 10000 := Nat.mul_right_comm ..
    _ ≤ _ := Nat.mul_le_mul_right 10000 hsquare
    _ ≤ 36 * 2 ^ 64 := htable
    _ = 36 * 2 ^ 32 * 2 ^ 32 := by decide

/-- The refined value's shortfall leaves room below 0.4 % for 64 m, the most that the scaling cuts off. -/
theorem recipRefine_recipSeed_short_of_scaling {m : Nat} (hlo : 32768 ≤ m) (hhi : m ≤ 65535) :
    (2 ^ 32 - m * recipRefine m (recipSeed m) + 64 * m) * 1000 < 4 * 2 ^ 32 := by
  obtain ⟨hk, -, hupper⟩ := recipIndex_spec hlo hhi
  have hshort := sub_mul_recipRefine_recipSeed_le hlo hhi
  obtain ⟨-, htable⟩ := recipSeedGap_sq_le _ hk
  generalize 2 ^ 32 - m * recipRefine m (recipSeed m) = short at hshort ⊢
  omega

/-! ### The scaling (R47) -/

theorem recip_eq {d : Nat} (hpos : 1 ≤ d) (hd : d ≤ 16383) :
    recip d = recipRefine (recipNormal d) (recipSeed (recipNormal d)) * 2 ^ recipZeros d / 256 := if_pos ⟨hpos, hd⟩

/-- Multiplied by D, the scaling turns m × y1 into 256 × q × D, less at most 256 × D. -/
theorem recip_mul_bounds {d : Nat} (hpos : 1 ≤ d) (hd : d ≤ 16383) :
    recip d * d * 256 ≤ recipNormal d * recipRefine (recipNormal d) (recipSeed (recipNormal d))
      ∧ recipNormal d * recipRefine (recipNormal d) (recipSeed (recipNormal d)) ≤ recip d * d * 256 + 256 * d := by
  rw [recip_eq hpos hd]
  generalize recipRefine (recipNormal d) (recipSeed (recipNormal d)) = y
  have hscale : recipNormal d * y = d * (y * 2 ^ recipZeros d) := by
    rw [recipNormal, Nat.mul_assoc, Nat.mul_comm (2 ^ recipZeros d)]
  have hle : d * (y * 2 ^ recipZeros d / 256 * 256) ≤ d * (y * 2 ^ recipZeros d) :=
    Nat.mul_le_mul_left d (Nat.div_mul_le_self ..)
  have hge : d * (y * 2 ^ recipZeros d) ≤ d * (y * 2 ^ recipZeros d / 256 * 256 + 256) :=
    Nat.mul_le_mul_left d (Nat.le_of_lt (Nat.lt_div_mul_add (by decide)))
  have hquotient : d * (y * 2 ^ recipZeros d / 256 * 256) = y * 2 ^ recipZeros d / 256 * d * 256 := by
    rw [← Nat.mul_assoc, Nat.mul_comm d (_ / 256)]
  rw [hquotient] at hle
  rw [Nat.mul_add, hquotient, Nat.mul_comm d 256] at hge
  exact hscale ▸ ⟨hle, hge⟩

theorem recip_mul_le {d : Nat} (hpos : 1 ≤ d) (hd : d ≤ 16383) : recip d * d ≤ 2 ^ 24 := by
  obtain ⟨hlo, hhi⟩ := recipNormal_range hpos hd
  have hrefine := mul_recipRefine_le (Nat.le_of_lt (mul_recipSeed_lt hlo hhi))
  obtain ⟨hscale, -⟩ := recip_mul_bounds hpos hd
  omega

theorem recip_short {d : Nat} (hpos : 1 ≤ d) (hd : d ≤ 16383) : (2 ^ 24 - recip d * d) * 1000 < 4 * 2 ^ 24 := by
  obtain ⟨hlo, hhi⟩ := recipNormal_range hpos hd
  have hrefine := recipRefine_recipSeed_short_of_scaling hlo hhi
  obtain ⟨-, hscale⟩ := recip_mul_bounds hpos hd
  have hfour := four_mul_le_recipNormal hpos hd
  have hgap : (2 ^ 24 - recip d * d) * 256
      ≤ 2 ^ 32 - recipNormal d * recipRefine (recipNormal d) (recipSeed (recipNormal d)) + 64 * recipNormal d := by omega
  refine Nat.lt_of_mul_lt_mul_right (a := 256) ?_
  calc (2 ^ 24 - recip d * d) * 1000 * 256 = (2 ^ 24 - recip d * d) * 256 * 1000 := Nat.mul_right_comm ..
    _ ≤ _ := Nat.mul_le_mul_right 1000 hgap
    _ < 4 * 2 ^ 32 := hrefine
    _ = 4 * 2 ^ 24 * 256 := by decide

/-! ### The statements -/

/-- Settles O7: the bounds of each stage, from the sixteenth of the range in which the normalised value lies. -/
theorem recipNormalisesSeedsRefines : Obligations.RecipNormalisesSeedsRefines := by
  refine ⟨⟨fun d hpos hd => ?_, ?_⟩, by decide, fun m hlo hhi => ?_, fun k hk => ?_⟩
  · have hd16 : d < 2 ^ 16 := by omega
    obtain ⟨hlo, hhi⟩ := recipNormal_range hpos hd
    exact ⟨rfl, two_le_recipZeros hpos hd, recipZeros_le d, hlo, hhi, two_pow_le_of_recipZeros hpos hd16, lt_two_pow_of_recipZeros hd16⟩
  · decide
  · obtain ⟨hk, -, hupper⟩ := recipIndex_spec hlo hhi
    have hseed := mul_recipSeed_lt hlo hhi
    have hpos : 0 < m * recipSeed m := Nat.mul_pos (by omega) (recipSeedAt_pos hk)
    have hproduct : recipSeed m * (2 ^ 33 - m * recipSeed m) < 2 ^ 17 * 2 ^ 33 :=
      Nat.mul_lt_mul_of_lt_of_le (recipSeedAt_lt _) (Nat.sub_le ..) (by decide)
    exact ⟨hk, rfl, hupper, hseed, by omega, by omega, rfl, hproduct, mul_recipRefine_le (Nat.le_of_lt hseed), recipRefine_recipSeed_short hlo hhi⟩
  · rw [sub_lower_end_mul_recipSeed]
    exact recipSeedGap_lt k hk

/-- Settles O8: the scaling cuts off at most 256 D, which is at most 64 m, and the refined value's shortfall leaves room for that. -/
theorem recipScalesBack : Obligations.RecipScalesBack :=
  ⟨fun _ hpos hd => ⟨recip_eq hpos hd, recip_mul_le hpos hd, recip_short hpos hd⟩, by decide, by decide, by decide⟩

end Sys2Proof.Machine
end

section
/-! ## The frame of each operation: the blocks that it leaves as they are -/

namespace Sys2Proof.Machine
@[simp] theorem State.oscillatorStable_frame (s : State) :
    s.oscillatorStable.clock = s.clock ∧ s.oscillatorStable.pins = s.pins ∧ s.oscillatorStable.round = s.round ∧
      s.oscillatorStable.peers = s.peers ∧ s.oscillatorStable.share = s.share ∧ s.oscillatorStable.demand = s.demand ∧
      s.oscillatorStable.batt = s.batt ∧ s.oscillatorStable.term = s.term ∧ s.oscillatorStable.test = s.test ∧
      s.oscillatorStable.pending = s.pending := by
  unfold State.oscillatorStable
  dsimp only
  (repeat' split) <;> simp

@[simp] theorem State.mainsFailArming_frame (s : State) :
    s.mainsFailArming.clock = s.clock ∧ s.mainsFailArming.supply = s.supply ∧ s.mainsFailArming.pins = s.pins ∧
      s.mainsFailArming.peers = s.peers ∧ s.mainsFailArming.share = s.share ∧ s.mainsFailArming.demand = s.demand ∧
      s.mainsFailArming.line = s.line ∧ s.mainsFailArming.conv = s.conv ∧ s.mainsFailArming.batt = s.batt ∧ s.mainsFailArming.term
      = s.term ∧ s.mainsFailArming.test = s.test ∧ s.mainsFailArming.status = s.status ∧ s.mainsFailArming.pending = s.pending := by
  unfold State.mainsFailArming
  (repeat' split) <;> simp

@[simp] theorem State.terminalMainsFail_frame (s : State) :
    s.terminalMainsFail.clock = s.clock ∧ s.terminalMainsFail.supply = s.supply ∧ s.terminalMainsFail.pins = s.pins ∧
      s.terminalMainsFail.round = s.round ∧ s.terminalMainsFail.peers = s.peers ∧ s.terminalMainsFail.share = s.share ∧
      s.terminalMainsFail.demand = s.demand ∧ s.terminalMainsFail.line = s.line ∧ s.terminalMainsFail.conv = s.conv ∧
      s.terminalMainsFail.batt = s.batt ∧ s.terminalMainsFail.status = s.status ∧ s.terminalMainsFail.pending = s.pending := by
  unfold State.terminalMainsFail
  split <;> simp

@[simp] theorem State.mainsFails_frame (s : State) :
    s.mainsFails.clock = s.clock ∧ s.mainsFails.pins = s.pins ∧ s.mainsFails.peers = s.peers ∧ s.mainsFails.share = s.share ∧
      s.mainsFails.demand = s.demand ∧ s.mainsFails.conv = s.conv ∧ s.mainsFails.pending = s.pending := by
  simp [State.mainsFails]

@[simp] theorem State.terminalMainsReturn_frame (s : State) :
    s.terminalMainsReturn.clock = s.clock ∧ s.terminalMainsReturn.supply = s.supply ∧ s.terminalMainsReturn.pins = s.pins ∧
      s.terminalMainsReturn.round = s.round ∧ s.terminalMainsReturn.peers = s.peers ∧ s.terminalMainsReturn.share = s.share ∧
      s.terminalMainsReturn.demand = s.demand ∧ s.terminalMainsReturn.line = s.line ∧ s.terminalMainsReturn.conv = s.conv ∧
      s.terminalMainsReturn.batt = s.batt ∧ s.terminalMainsReturn.status = s.status ∧ s.terminalMainsReturn.pending = s.pending := by
  unfold State.terminalMainsReturn
  (repeat' split) <;> simp

@[simp] theorem State.testMainsReturn_frame (s : State) :
    s.testMainsReturn.clock = s.clock ∧ s.testMainsReturn.supply = s.supply ∧ s.testMainsReturn.pins = s.pins ∧
      s.testMainsReturn.round = s.round ∧ s.testMainsReturn.peers = s.peers ∧ s.testMainsReturn.share = s.share ∧
      s.testMainsReturn.demand = s.demand ∧ s.testMainsReturn.line = s.line ∧ s.testMainsReturn.conv = s.conv ∧
      s.testMainsReturn.status = s.status ∧ s.testMainsReturn.pending = s.pending := by
  simp [State.testMainsReturn]

@[simp] theorem State.converterMainsReturn_frame (s : State) :
    s.converterMainsReturn.clock = s.clock ∧ s.converterMainsReturn.supply = s.supply ∧ s.converterMainsReturn.pins = s.pins ∧
      s.converterMainsReturn.round = s.round ∧ s.converterMainsReturn.peers = s.peers ∧ s.converterMainsReturn.share = s.share ∧
      s.converterMainsReturn.demand = s.demand ∧ s.converterMainsReturn.line = s.line ∧ s.converterMainsReturn.term = s.term ∧
      s.converterMainsReturn.test = s.test ∧ s.converterMainsReturn.status = s.status ∧ s.converterMainsReturn.pending = s.pending := by
  unfold State.converterMainsReturn
  split <;> simp

@[simp] theorem State.mainsReturns_frame (s : State) :
    s.mainsReturns.clock = s.clock ∧ s.mainsReturns.pins = s.pins ∧ s.mainsReturns.round = s.round ∧ s.mainsReturns.peers =
      s.peers ∧ s.mainsReturns.share = s.share ∧ s.mainsReturns.demand = s.demand ∧ s.mainsReturns.pending = s.pending := by
  simp [State.mainsReturns]

@[simp] theorem State.fallAsleep_frame (s : State) :
    s.fallAsleep.clock = s.clock ∧ s.fallAsleep.pins = s.pins ∧ s.fallAsleep.round = s.round ∧ s.fallAsleep.peers = s.peers ∧
      s.fallAsleep.share = s.share ∧ s.fallAsleep.demand = s.demand ∧ s.fallAsleep.batt = s.batt ∧ s.fallAsleep.term = s.term ∧
      s.fallAsleep.test = s.test ∧ s.fallAsleep.status = s.status ∧ s.fallAsleep.pending = s.pending := by
  simp [State.fallAsleep]

@[simp] theorem State.leaveStart_frame (s : State) :
    s.leaveStart.clock = s.clock ∧ s.leaveStart.supply = s.supply ∧ s.leaveStart.pins = s.pins ∧ s.leaveStart.round = s.round ∧
      s.leaveStart.peers = s.peers ∧ s.leaveStart.share = s.share ∧ s.leaveStart.demand = s.demand ∧ s.leaveStart.line = s.line ∧
      s.leaveStart.conv = s.conv ∧ s.leaveStart.batt = s.batt ∧ s.leaveStart.status = s.status ∧ s.leaveStart.pending = s.pending := by
  unfold State.leaveStart
  dsimp only
  (repeat' split) <;> simp

@[simp] theorem State.terminalBandChange_frame (s : State) (b : Band) :
    (s.terminalBandChange b).clock = s.clock ∧ (s.terminalBandChange b).supply = s.supply ∧ (s.terminalBandChange b).pins = s.pins
      ∧ (s.terminalBandChange b).round = s.round ∧ (s.terminalBandChange b).peers = s.peers ∧ (s.terminalBandChange b).share =
      s.share ∧ (s.terminalBandChange b).demand = s.demand ∧ (s.terminalBandChange b).line = s.line ∧ (s.terminalBandChange
      b).conv = s.conv ∧ (s.terminalBandChange b).batt = s.batt ∧ (s.terminalBandChange b).status = s.status ∧
      (s.terminalBandChange b).pending = s.pending := by
  unfold State.terminalBandChange
  split <;> simp

@[simp] theorem State.testBandChange_frame (s : State) :
    s.testBandChange.clock = s.clock ∧ s.testBandChange.supply = s.supply ∧ s.testBandChange.pins = s.pins ∧
      s.testBandChange.round = s.round ∧ s.testBandChange.peers = s.peers ∧ s.testBandChange.share = s.share ∧
      s.testBandChange.demand = s.demand ∧ s.testBandChange.line = s.line ∧ s.testBandChange.conv = s.conv ∧
      s.testBandChange.status = s.status ∧ s.testBandChange.pending = s.pending := by
  unfold State.testBandChange
  (repeat' split) <;> simp

@[simp] theorem State.setBand_frame (s : State) (b : Band) :
    (s.setBand b).clock = s.clock ∧ (s.setBand b).pins = s.pins ∧ (s.setBand b).round = s.round ∧ (s.setBand b).peers = s.peers ∧
      (s.setBand b).share = s.share ∧ (s.setBand b).demand = s.demand ∧ (s.setBand b).line = s.line ∧ (s.setBand b).conv = s.conv
      ∧ (s.setBand b).pending = s.pending := by
  unfold State.setBand
  dsimp only
  (repeat' split) <;> simp

@[simp] theorem State.evaluated_frame (s : State) :
    s.evaluated.clock = s.clock ∧ s.evaluated.pins = s.pins ∧ s.evaluated.round = s.round ∧ s.evaluated.peers = s.peers ∧
      s.evaluated.share = s.share ∧ s.evaluated.demand = s.demand ∧ s.evaluated.line = s.line ∧ s.evaluated.conv = s.conv ∧
      s.evaluated.pending = s.pending := by
  unfold State.evaluated
  dsimp only
  (repeat' split) <;> simp

@[simp] theorem State.batterySample_frame (s : State) (x : Nat) (y : Int) :
    (s.batterySample x y).clock = s.clock ∧ (s.batterySample x y).supply = s.supply ∧ (s.batterySample x y).pins = s.pins ∧
      (s.batterySample x y).round = s.round ∧ (s.batterySample x y).peers = s.peers ∧ (s.batterySample x y).share = s.share ∧
      (s.batterySample x y).demand = s.demand ∧ (s.batterySample x y).line = s.line ∧ (s.batterySample x y).conv = s.conv ∧
      (s.batterySample x y).term = s.term ∧ (s.batterySample x y).test = s.test ∧ (s.batterySample x y).status = s.status ∧
      (s.batterySample x y).pending = s.pending := by
  simp [State.batterySample]

@[simp] theorem State.collapse_frame (s : State) (c : TestContext) :
    (s.collapse c).clock = s.clock ∧ (s.collapse c).supply = s.supply ∧ (s.collapse c).pins = s.pins ∧ (s.collapse c).round =
      s.round ∧ (s.collapse c).peers = s.peers ∧ (s.collapse c).share = s.share ∧ (s.collapse c).demand = s.demand ∧ (s.collapse
      c).line = s.line ∧ (s.collapse c).conv = s.conv ∧ (s.collapse c).status = s.status ∧ (s.collapse c).pending = s.pending := by
  simp [State.collapse]

@[simp] theorem State.withContext_frame (s : State) (c : TestContext) :
    (s.withContext c).clock = s.clock ∧ (s.withContext c).supply = s.supply ∧ (s.withContext c).pins = s.pins ∧ (s.withContext
      c).round = s.round ∧ (s.withContext c).peers = s.peers ∧ (s.withContext c).share = s.share ∧ (s.withContext c).demand =
      s.demand ∧ (s.withContext c).line = s.line ∧ (s.withContext c).conv = s.conv ∧ (s.withContext c).batt = s.batt ∧
      (s.withContext c).term = s.term ∧ (s.withContext c).status = s.status ∧ (s.withContext c).pending = s.pending := by
  simp [State.withContext]

@[simp] theorem State.testSample_frame (s : State) (x : Nat) (y : Int) :
    (s.testSample x y).clock = s.clock ∧ (s.testSample x y).supply = s.supply ∧ (s.testSample x y).pins = s.pins ∧ (s.testSample x
      y).round = s.round ∧ (s.testSample x y).peers = s.peers ∧ (s.testSample x y).share = s.share ∧ (s.testSample x y).demand =
      s.demand ∧ (s.testSample x y).line = s.line ∧ (s.testSample x y).conv = s.conv ∧ (s.testSample x y).status = s.status ∧
      (s.testSample x y).pending = s.pending := by
  unfold State.testSample
  (repeat' split) <;> simp

@[simp] theorem State.regulate_frame (s : State) (n : Nat) :
    (s.regulate n).clock = s.clock ∧ (s.regulate n).supply = s.supply ∧ (s.regulate n).pins = s.pins ∧ (s.regulate n).round =
      s.round ∧ (s.regulate n).peers = s.peers ∧ (s.regulate n).share = s.share ∧ (s.regulate n).demand = s.demand ∧ (s.regulate
      n).line = s.line ∧ (s.regulate n).batt = s.batt ∧ (s.regulate n).term = s.term ∧ (s.regulate n).test = s.test ∧ (s.regulate
      n).status = s.status ∧ (s.regulate n).pending = s.pending := by
  simp [State.regulate]

@[simp] theorem State.ramp_frame (s : State) :
    s.ramp.clock = s.clock ∧ s.ramp.supply = s.supply ∧ s.ramp.pins = s.pins ∧ s.ramp.round = s.round ∧ s.ramp.peers = s.peers ∧
      s.ramp.share = s.share ∧ s.ramp.demand = s.demand ∧ s.ramp.line = s.line ∧ s.ramp.term = s.term ∧ s.ramp.test = s.test ∧
      s.ramp.status = s.status ∧ s.ramp.pending = s.pending := by
  simp [State.ramp]

@[simp] theorem State.converterSample_frame (s : State) (x y : Nat) :
    (s.converterSample x y).clock = s.clock ∧ (s.converterSample x y).supply = s.supply ∧ (s.converterSample x y).pins = s.pins ∧
      (s.converterSample x y).round = s.round ∧ (s.converterSample x y).peers = s.peers ∧ (s.converterSample x y).share = s.share
      ∧ (s.converterSample x y).demand = s.demand ∧ (s.converterSample x y).line = s.line ∧ (s.converterSample x y).status =
      s.status ∧ (s.converterSample x y).pending = s.pending := by
  unfold State.converterSample
  dsimp only
  (repeat' split) <;> simp

@[simp] theorem State.nextMeasurement_frame (s : State) (tb : TimeBase) :
    (s.nextMeasurement tb).clock = s.clock ∧ (s.nextMeasurement tb).supply = s.supply ∧ (s.nextMeasurement tb).pins = s.pins ∧
      (s.nextMeasurement tb).round = s.round ∧ (s.nextMeasurement tb).peers = s.peers ∧ (s.nextMeasurement tb).share = s.share ∧
      (s.nextMeasurement tb).demand = s.demand ∧ (s.nextMeasurement tb).line = s.line ∧ (s.nextMeasurement tb).batt = s.batt ∧
      (s.nextMeasurement tb).term = s.term ∧ (s.nextMeasurement tb).test = s.test ∧ (s.nextMeasurement tb).status = s.status ∧
      (s.nextMeasurement tb).pending = s.pending := by
  simp [State.nextMeasurement]

@[simp] theorem State.measured_frame (s : State) (tb : TimeBase) (m : Samples) :
    (s.measured tb m).clock = s.clock ∧ (s.measured tb m).supply = s.supply ∧ (s.measured tb m).round = s.round ∧ (s.measured tb
      m).peers = s.peers ∧ (s.measured tb m).share = s.share ∧ (s.measured tb m).line = s.line ∧ (s.measured tb m).status =
      s.status ∧ (s.measured tb m).pending = s.pending := by
  simp [State.measured]

@[simp] theorem State.endOnTime_frame (s : State) (n : Nat) :
    (s.endOnTime n).clock = s.clock ∧ (s.endOnTime n).supply = s.supply ∧ (s.endOnTime n).pins = s.pins ∧ (s.endOnTime n).round =
      s.round ∧ (s.endOnTime n).peers = s.peers ∧ (s.endOnTime n).share = s.share ∧ (s.endOnTime n).demand = s.demand ∧
      (s.endOnTime n).line = s.line ∧ (s.endOnTime n).batt = s.batt ∧ (s.endOnTime n).term = s.term ∧ (s.endOnTime n).test =
      s.test ∧ (s.endOnTime n).status = s.status ∧ (s.endOnTime n).pending = s.pending := by
  simp [State.endOnTime]

@[simp] theorem State.latches_frame (s : State) :
    s.latches.clock = s.clock ∧ s.latches.supply = s.supply ∧ s.latches.pins = s.pins ∧ s.latches.round = s.round ∧
      s.latches.peers = s.peers ∧ s.latches.share = s.share ∧ s.latches.demand = s.demand ∧ s.latches.line = s.line ∧
      s.latches.status = s.status ∧ s.latches.pending = s.pending := by
  simp [State.latches]

@[simp] theorem State.becomesIdle_frame (s : State) :
    s.becomesIdle.clock = s.clock ∧ s.becomesIdle.supply = s.supply ∧ s.becomesIdle.pins = s.pins ∧ s.becomesIdle.round = s.round
      ∧ s.becomesIdle.peers = s.peers ∧ s.becomesIdle.share = s.share ∧ s.becomesIdle.demand = s.demand ∧ s.becomesIdle.conv =
      s.conv ∧ s.becomesIdle.batt = s.batt ∧ s.becomesIdle.term = s.term ∧ s.becomesIdle.test = s.test ∧ s.becomesIdle.status =
      s.status ∧ s.becomesIdle.pending = s.pending := by
  simp [State.becomesIdle]

@[simp] theorem State.delimiterEnds_frame (s : State) :
    s.delimiterEnds.clock = s.clock ∧ s.delimiterEnds.supply = s.supply ∧ s.delimiterEnds.pins = s.pins ∧ s.delimiterEnds.term =
      s.term ∧ s.delimiterEnds.test = s.test ∧ s.delimiterEnds.status = s.status ∧ s.delimiterEnds.pending = s.pending := by
  simp [State.delimiterEnds]

@[simp] theorem State.edgeBegins_frame (s : State) :
    s.edgeBegins.clock = s.clock ∧ s.edgeBegins.supply = s.supply ∧ s.edgeBegins.pins = s.pins ∧ s.edgeBegins.round = s.round ∧
      s.edgeBegins.peers = s.peers ∧ s.edgeBegins.share = s.share ∧ s.edgeBegins.demand = s.demand ∧ s.edgeBegins.conv = s.conv ∧
      s.edgeBegins.batt = s.batt ∧ s.edgeBegins.term = s.term ∧ s.edgeBegins.test = s.test ∧ s.edgeBegins.status = s.status ∧
      s.edgeBegins.pending = s.pending := by
  simp [State.edgeBegins]

@[simp] theorem State.takeError_frame (s : State) (k : ErrorKind) :
    (s.takeError k).clock = s.clock ∧ (s.takeError k).supply = s.supply ∧ (s.takeError k).pins = s.pins ∧ (s.takeError k).round =
      s.round ∧ (s.takeError k).peers = s.peers ∧ (s.takeError k).share = s.share ∧ (s.takeError k).demand = s.demand ∧
      (s.takeError k).conv = s.conv ∧ (s.takeError k).status = s.status ∧ (s.takeError k).pending = s.pending := by
  simp [State.takeError]

@[simp] theorem State.getsStuck_frame (s : State) :
    s.getsStuck.clock = s.clock ∧ s.getsStuck.supply = s.supply ∧ s.getsStuck.pins = s.pins ∧ s.getsStuck.term = s.term ∧
      s.getsStuck.test = s.test ∧ s.getsStuck.status = s.status ∧ s.getsStuck.pending = s.pending := by
  unfold State.getsStuck
  dsimp only
  (repeat' split) <;> simp

@[simp] theorem State.clash_frame (s : State) :
    s.clash.clock = s.clock ∧ s.clash.pins = s.pins ∧ s.clash.pending = s.pending := by
  unfold State.clash
  split <;> simp

@[simp] theorem State.openingCompletes_frame (s : State) (o : Opening) :
    (s.openingCompletes o).clock = s.clock ∧ (s.openingCompletes o).pins = s.pins ∧ (s.openingCompletes o).pending = s.pending := by
  unfold State.openingCompletes
  dsimp only
  (repeat' split) <;> simp

@[simp] theorem State.noticeCompletes_frame (s : State) (n : Notice) :
    (s.noticeCompletes n).clock = s.clock ∧ (s.noticeCompletes n).pins = s.pins ∧ (s.noticeCompletes n).pending = s.pending := by
  unfold State.noticeCompletes
  dsimp only
  (repeat' split) <;> simp

@[simp] theorem State.joinExpires_frame (s : State) :
    s.joinExpires.clock = s.clock ∧ s.joinExpires.supply = s.supply ∧ s.joinExpires.pins = s.pins ∧ s.joinExpires.peers = s.peers
      ∧ s.joinExpires.share = s.share ∧ s.joinExpires.demand = s.demand ∧ s.joinExpires.line = s.line ∧ s.joinExpires.term =
      s.term ∧ s.joinExpires.test = s.test ∧ s.joinExpires.status = s.status ∧ s.joinExpires.pending = s.pending := by
  simp [State.joinExpires]

@[simp] theorem State.computationCompletes_frame (s : State) :
    s.computationCompletes.clock = s.clock ∧ s.computationCompletes.pins = s.pins ∧ s.computationCompletes.peers = s.peers ∧
      s.computationCompletes.demand = s.demand ∧ s.computationCompletes.line = s.line ∧ s.computationCompletes.pending = s.pending := by
  unfold State.computationCompletes
  dsimp only
  (repeat' split) <;> simp

@[simp] theorem State.losesReference_frame (s : State) :
    s.losesReference.clock = s.clock ∧ s.losesReference.pins = s.pins ∧ s.losesReference.peers = s.peers ∧ s.losesReference.line =
      s.line ∧ s.losesReference.pending = s.pending := by
  simp [State.losesReference]

@[simp] theorem State.statusEnds_frame (s : State) :
    s.statusEnds.clock = s.clock ∧ s.statusEnds.pins = s.pins ∧ s.statusEnds.round = s.round ∧ s.statusEnds.peers = s.peers ∧
      s.statusEnds.share = s.share ∧ s.statusEnds.demand = s.demand ∧ s.statusEnds.line = s.line ∧ s.statusEnds.conv = s.conv ∧
      s.statusEnds.batt = s.batt ∧ s.statusEnds.term = s.term ∧ s.statusEnds.test = s.test ∧ s.statusEnds.pending = s.pending := by
  unfold State.statusEnds
  dsimp only
  (repeat' split) <;> simp

@[simp] theorem State.idleAtDemand_frame (s : State) :
    s.idleAtDemand.clock = s.clock ∧ s.idleAtDemand.supply = s.supply ∧ s.idleAtDemand.pins = s.pins ∧ s.idleAtDemand.round =
      s.round ∧ s.idleAtDemand.peers = s.peers ∧ s.idleAtDemand.share = s.share ∧ s.idleAtDemand.demand = s.demand ∧
      s.idleAtDemand.line = s.line ∧ s.idleAtDemand.conv = s.conv ∧ s.idleAtDemand.batt = s.batt ∧ s.idleAtDemand.test = s.test ∧
      s.idleAtDemand.status = s.status ∧ s.idleAtDemand.pending = s.pending := by
  unfold State.idleAtDemand
  (repeat' split) <;> simp

@[simp] theorem State.demandWakes_frame (s : State) :
    s.demandWakes.clock = s.clock ∧ s.demandWakes.supply = s.supply ∧ s.demandWakes.pins = s.pins ∧ s.demandWakes.round = s.round
      ∧ s.demandWakes.peers = s.peers ∧ s.demandWakes.share = s.share ∧ s.demandWakes.demand = s.demand ∧ s.demandWakes.line =
      s.line ∧ s.demandWakes.conv = s.conv ∧ s.demandWakes.batt = s.batt ∧ s.demandWakes.status = s.status ∧ s.demandWakes.pending
      = s.pending := by
  unfold State.demandWakes
  dsimp only
  (repeat' split) <;> simp

@[simp] theorem State.testAtDemand_frame (s : State) :
    s.testAtDemand.clock = s.clock ∧ s.testAtDemand.supply = s.supply ∧ s.testAtDemand.pins = s.pins ∧ s.testAtDemand.round =
      s.round ∧ s.testAtDemand.peers = s.peers ∧ s.testAtDemand.share = s.share ∧ s.testAtDemand.demand = s.demand ∧
      s.testAtDemand.line = s.line ∧ s.testAtDemand.conv = s.conv ∧ s.testAtDemand.status = s.status ∧ s.testAtDemand.pending =
      s.pending := by
  unfold State.testAtDemand
  split <;> simp

@[simp] theorem State.demandTaken_frame (s : State) :
    s.demandTaken.clock = s.clock ∧ s.demandTaken.pins = s.pins ∧ s.demandTaken.round = s.round ∧ s.demandTaken.peers = s.peers ∧
      s.demandTaken.share = s.share ∧ s.demandTaken.demand = s.demand ∧ s.demandTaken.conv = s.conv ∧ s.demandTaken.pending =
      s.pending := by
  unfold State.demandTaken
  split <;> simp

@[simp] theorem State.linkLost_frame (s : State) :
    s.linkLost.clock = s.clock ∧ s.linkLost.supply = s.supply ∧ s.linkLost.pins = s.pins ∧ s.linkLost.round = s.round ∧
      s.linkLost.peers = s.peers ∧ s.linkLost.share = s.share ∧ s.linkLost.demand = s.demand ∧ s.linkLost.line = s.line ∧
      s.linkLost.conv = s.conv ∧ s.linkLost.status = s.status ∧ s.linkLost.pending = s.pending := by
  simp [State.linkLost]

@[simp] theorem State.bootTimesOut_frame (s : State) :
    s.bootTimesOut.clock = s.clock ∧ s.bootTimesOut.supply = s.supply ∧ s.bootTimesOut.pins = s.pins ∧ s.bootTimesOut.round =
      s.round ∧ s.bootTimesOut.peers = s.peers ∧ s.bootTimesOut.share = s.share ∧ s.bootTimesOut.demand = s.demand ∧
      s.bootTimesOut.line = s.line ∧ s.bootTimesOut.conv = s.conv ∧ s.bootTimesOut.batt = s.batt ∧ s.bootTimesOut.status =
      s.status ∧ s.bootTimesOut.pending = s.pending := by
  unfold State.bootTimesOut
  split <;> simp

@[simp] theorem State.idleExpires_frame (s : State) :
    s.idleExpires.clock = s.clock ∧ s.idleExpires.supply = s.supply ∧ s.idleExpires.pins = s.pins ∧ s.idleExpires.round = s.round
      ∧ s.idleExpires.peers = s.peers ∧ s.idleExpires.share = s.share ∧ s.idleExpires.demand = s.demand ∧ s.idleExpires.line =
      s.line ∧ s.idleExpires.conv = s.conv ∧ s.idleExpires.batt = s.batt ∧ s.idleExpires.status = s.status ∧ s.idleExpires.pending
      = s.pending := by
  unfold State.idleExpires
  split <;> simp

@[simp] theorem State.settleEnds_frame (s : State) (c : TestContext) :
    (s.settleEnds c).clock = s.clock ∧ (s.settleEnds c).supply = s.supply ∧ (s.settleEnds c).pins = s.pins ∧ (s.settleEnds
      c).round = s.round ∧ (s.settleEnds c).peers = s.peers ∧ (s.settleEnds c).share = s.share ∧ (s.settleEnds c).demand =
      s.demand ∧ (s.settleEnds c).line = s.line ∧ (s.settleEnds c).conv = s.conv ∧ (s.settleEnds c).term = s.term ∧ (s.settleEnds
      c).status = s.status ∧ (s.settleEnds c).pending = s.pending := by
  simp [State.settleEnds]

@[simp] theorem State.loadEnds_frame (s : State) (c : TestContext) :
    (s.loadEnds c).clock = s.clock ∧ (s.loadEnds c).supply = s.supply ∧ (s.loadEnds c).pins = s.pins ∧ (s.loadEnds c).round =
      s.round ∧ (s.loadEnds c).peers = s.peers ∧ (s.loadEnds c).share = s.share ∧ (s.loadEnds c).demand = s.demand ∧ (s.loadEnds
      c).line = s.line ∧ (s.loadEnds c).conv = s.conv ∧ (s.loadEnds c).batt = s.batt ∧ (s.loadEnds c).term = s.term ∧ (s.loadEnds
      c).status = s.status ∧ (s.loadEnds c).pending = s.pending := by
  simp [State.loadEnds]

@[simp] theorem State.resultOf_frame (s : State) (c : TestContext) :
    (s.resultOf c).clock = s.clock ∧ (s.resultOf c).supply = s.supply ∧ (s.resultOf c).pins = s.pins ∧ (s.resultOf c).round =
      s.round ∧ (s.resultOf c).peers = s.peers ∧ (s.resultOf c).demand = s.demand ∧ (s.resultOf c).line = s.line ∧ (s.resultOf
      c).conv = s.conv ∧ (s.resultOf c).batt = s.batt ∧ (s.resultOf c).term = s.term ∧ (s.resultOf c).status = s.status ∧
      (s.resultOf c).pending = s.pending := by
  unfold State.resultOf
  split <;> simp

@[simp] theorem State.testDone_frame (s : State) (c : TestContext) :
    (s.testDone c).clock = s.clock ∧ (s.testDone c).supply = s.supply ∧ (s.testDone c).pins = s.pins ∧ (s.testDone c).round =
      s.round ∧ (s.testDone c).peers = s.peers ∧ (s.testDone c).demand = s.demand ∧ (s.testDone c).line = s.line ∧ (s.testDone
      c).conv = s.conv ∧ (s.testDone c).status = s.status ∧ (s.testDone c).pending = s.pending := by
  simp [State.testDone]

@[simp] theorem State.resistanceKnown_frame (s : State) (r : ResultInHand) :
    (s.resistanceKnown r).clock = s.clock ∧ (s.resistanceKnown r).supply = s.supply ∧ (s.resistanceKnown r).pins = s.pins ∧
      (s.resistanceKnown r).round = s.round ∧ (s.resistanceKnown r).peers = s.peers ∧ (s.resistanceKnown r).demand = s.demand ∧
      (s.resistanceKnown r).line = s.line ∧ (s.resistanceKnown r).conv = s.conv ∧ (s.resistanceKnown r).batt = s.batt ∧
      (s.resistanceKnown r).term = s.term ∧ (s.resistanceKnown r).status = s.status ∧ (s.resistanceKnown r).pending = s.pending := by
  simp [State.resistanceKnown]

@[simp] theorem State.holdDriver_frame (s : State) :
    s.holdDriver.clock = s.clock ∧ s.holdDriver.supply = s.supply ∧ s.holdDriver.pins = s.pins ∧ s.holdDriver.round = s.round ∧
      s.holdDriver.peers = s.peers ∧ s.holdDriver.share = s.share ∧ s.holdDriver.demand = s.demand ∧ s.holdDriver.conv = s.conv ∧
      s.holdDriver.batt = s.batt ∧ s.holdDriver.term = s.term ∧ s.holdDriver.test = s.test ∧ s.holdDriver.status = s.status ∧
      s.holdDriver.pending = s.pending := by
  unfold State.holdDriver
  split <;> simp

@[simp] theorem State.quantumEnds_frame (s : State) (b : BitPos) :
    (s.quantumEnds b).clock = s.clock ∧ (s.quantumEnds b).supply = s.supply ∧ (s.quantumEnds b).round = s.round ∧ (s.quantumEnds
      b).peers = s.peers ∧ (s.quantumEnds b).share = s.share ∧ (s.quantumEnds b).demand = s.demand ∧ (s.quantumEnds b).conv =
      s.conv ∧ (s.quantumEnds b).batt = s.batt ∧ (s.quantumEnds b).term = s.term ∧ (s.quantumEnds b).test = s.test ∧
      (s.quantumEnds b).status = s.status ∧ (s.quantumEnds b).pending = s.pending := by
  unfold State.quantumEnds
  dsimp only
  (repeat' split) <;> simp

@[simp] theorem State.lineCycle_frame (s : State) (b : BitPos) :
    (s.lineCycle b).clock = s.clock ∧ (s.lineCycle b).supply = s.supply ∧ (s.lineCycle b).round = s.round ∧ (s.lineCycle b).peers
      = s.peers ∧ (s.lineCycle b).share = s.share ∧ (s.lineCycle b).demand = s.demand ∧ (s.lineCycle b).conv = s.conv ∧
      (s.lineCycle b).batt = s.batt ∧ (s.lineCycle b).term = s.term ∧ (s.lineCycle b).test = s.test ∧ (s.lineCycle b).status =
      s.status ∧ (s.lineCycle b).pending = s.pending := by
  unfold State.lineCycle
  split <;> simp

end Sys2Proof.Machine

end

section
/-! ## The effect of a command, and the blocks that each command may change -/

namespace Sys2Proof.Machine
/-! ### The effect of a command -/

/-- The state in which a command leaves the block: exec answers no other outcome (`exec_eq_effect`). -/
def effect (c : Instr) (s : State) : State :=
  match exec c s with
  | .next t => t
  | .fault _ => s
  | .refused _ => s

theorem exec_eq_effect (c : Instr) (s : State) : exec c s = .next (effect c s) := by
  cases c <;> rfl

theorem effect_of_exec {c : Instr} {s t : State} (h : exec c s = .next t) : effect c s = t := by
  simp [effect, h]

/-- A step is the effect of the front command on the queue's rest, or a cycle where none waits. -/
theorem step_cases {s t : State} (h : step s = .next t) :
    (s.pending = [] ∧ t = s.tick) ∨ ∃ c rest, s.pending = c :: rest ∧ t = effect c (s.withPending rest) := by
  unfold step at h
  split at h
  next hq => exact .inl ⟨hq, by simpa using h.symm⟩
  next c rest hq => exact .inr ⟨c, rest, hq, by rw [exec_eq_effect] at h; simpa using h.symm⟩

/-- A property that taking a command off the queue, a cycle and the effect of each command keep is kept by a step. -/
theorem step_keeps {P : State → Prop} (hqueue : ∀ s q, P s → P (s.withPending q)) (htick : ∀ s, P s → P s.tick)
    (heffect : ∀ c s, P s → P (effect c s)) {s t : State} (hs : P s) (h : step s = .next t) : P t := by
  obtain ⟨-, rfl⟩ | ⟨c, rest, -, rfl⟩ := step_cases h
  · exact htick s hs
  · exact heffect c _ (hqueue s rest hs)

/-- What a command keeps: it is kept by what the command does when the part runs, and by the look at the sleep request behind it. -/
theorem whenRunning_keeps {P : State → Prop} {f : State → State} {s : State} (hask : ∀ t, P t → P t.askSleep) (hs : P s) (hf : P (f s)) :
    P (whenRunning f s) := by
  unfold whenRunning
  split
  · exact hask _ hf
  · exact hs

/-- What a command keeps: it is kept by what the command does when the part runs, and by the look at the sleep request behind it. -/
theorem effect_keeps {P : State → Prop} (hask : ∀ t, P t → P t.askSleep) {c : Instr} {f : State → State} {s : State}
    (hc : exec c s = .next (whenRunning f s)) (hs : P s) (hf : P (f s)) : P (effect c s) :=
  effect_of_exec hc ▸ whenRunning_keeps hask hs hf

/-- What a command leaves as it is. -/
theorem effect_proj {α : Type} (π : State → α) (hask : ∀ t : State, π t.askSleep = π t) {c : Instr} {f : State → State} {s : State}
    (hc : exec c s = .next (whenRunning f s)) (hf : π (f s) = π s) : π (effect c s) = π s :=
  effect_keeps (P := fun t => π t = π s) (fun t ht => (hask t).trans ht) hc rfl hf

inductive Block where
  | supply | pins | round | peers | share | demand | line | conv | batt | term | test | status
deriving DecidableEq

/-- The blocks that a command may change. A sleep request that stands may have any command ask for a status frame (R164): the sleep frame, the
frame in progress and the pending request are left out. -/
def touched : Instr → List Block
  | .supplyDipReset => [.supply, .round, .peers, .share, .demand, .line, .conv, .batt, .term, .test, .status]
  | .retainedStoreLoss => [.supply, .term, .test]
  | .start _ => [.supply, .pins, .round, .peers, .share, .demand, .line, .conv, .batt, .term, .test, .status]
  | .fastOscillatorStable => [.supply, .line, .conv]
  | .mainsSenseChange _ => [.supply]
  | .mainsFail => [.supply, .round, .line, .batt, .term, .test, .status]
  | .mainsReturn => [.supply, .line, .conv, .batt, .term, .test, .status]
  | .openingFrame _ => [.round, .peers, .share, .demand, .line, .conv, .batt, .term, .test, .status]
  | .notice _ => [.round, .peers, .share, .demand, .line, .conv, .batt, .term, .test, .status]
  | .roundTimerExpiry => [.round, .line]
  | .joinTimerExpiry => [.round, .conv, .batt]
  | .roundTimerLead => [.supply, .line, .batt, .status]
  | .lineEdgeWake => [.supply, .round, .line, .batt, .status]
  | .closeEvent => [.round, .peers, .share, .demand, .line, .conv, .batt]
  | .shareComputationComplete => [.round, .share, .conv, .batt, .term, .test]
  | .loweringPoint => [.round, .share, .conv, .batt, .term, .test]
  | .raisingPoint => [.round, .share, .conv, .batt, .term, .test]
  | .mutedReportPoint => [.round]
  | .roundAgeLimit => [.round, .share, .demand, .conv, .batt, .term, .test, .status]
  | .lineIdle => [.line]
  | .loseArbitration => [.line]
  | .frameError => [.line, .batt, .term, .test]
  | .errorDelimiterEnd => [.round, .peers, .share, .demand, .line, .conv, .batt]
  | .extraWaitExpiry => [.line]
  | .dominantTimeout => [.line, .batt, .term, .test]
  | .lineStuck => [.round, .peers, .share, .demand, .line, .conv, .batt]
  | .lineStuckClear => [.line]
  | .returnFromOffline => [.line, .test]
  | .measurementEvent _ => [.pins, .demand, .conv, .batt, .term, .test]
  | .bandEvaluation => [.batt, .term, .test, .status]
  | .settleEnd => [.batt, .test]
  | .loadEnd => [.test]
  | .testDone => [.share, .batt, .term, .test]
  | .resistanceComputed => [.share, .test]
  | .testDue => [.test]
  | .peakLimit => [.conv]
  | .persistLatch => [.conv, .batt, .term, .test]
  | .intervalTimerExpiry => [.conv, .batt, .term, .test]
  | .riserLowGateShut => [.conv]
  | .riserLowGateOpen => [.conv]
  | .riserHighLatch => [.pins, .conv, .batt, .term, .test]
  | .railLimit => [.conv]
  | .railHigh => [.conv]
  | .demandLinesChange _ => [.term]
  | .demandLevelTaken => [.supply, .line, .batt, .term, .test, .status]
  | .readySeen => [.supply, .pins, .line, .batt, .term, .test, .status]
  | .readyLost => [.supply, .pins, .line, .batt, .term, .test, .status]
  | .bootTimeout => [.term, .test]
  | .retryWaitExpiry => [.term, .test]
  | .idleTimerExpiry => [.term, .test]
  | .keepAliveTime => [.term, .test]
  | .statusFrameEnd => []
  | .repeatTimerExpiry => [.status]
  | .enterSleep => [.supply, .line, .conv]
  | .startBitEdge => [.round, .peers, .share, .demand, .line, .conv, .batt]
  | .switchingPeriodStart => [.conv]
  | .onTimeEnd => [.conv]

/-- The supply controller without its sleep request and that request's frame, which many commands set, follow or clear (R164). -/
def SupplyState.bare (p : SupplyState) : SupplyState := { p with sleepRequest := false, sleepFrame := .none }

@[simp] theorem SupplyState.bare_with (p : SupplyState) (b : Bool) (f : SleepFrame) :
    SupplyState.bare { p with sleepRequest := b, sleepFrame := f } = p.bare := rfl

/-- Two states that differ in no block but those of a list, nor in the clock and the queue of commands; of the supply controller the sleep
request is left out, of the status reporter what is sent. -/
structure SameBut (bs : List Block) (s t : State) : Prop where
  clock : t.clock = s.clock
  pending : t.pending = s.pending
  supply : .supply ∉ bs → t.supply.bare = s.supply.bare
  pins : .pins ∉ bs → t.pins = s.pins
  round : .round ∉ bs → t.round = s.round
  peers : .peers ∉ bs → t.peers = s.peers
  share : .share ∉ bs → t.share = s.share
  demand : .demand ∉ bs → t.demand = s.demand
  line : .line ∉ bs → t.line = s.line
  conv : .conv ∉ bs → t.conv = s.conv
  batt : .batt ∉ bs → t.batt = s.batt
  term : .term ∉ bs → t.term = s.term
  test : .test ∉ bs → t.test = s.test
  status : .status ∉ bs → t.status.repeatTimer = s.status.repeatTimer

theorem SameBut.refl (bs : List Block) (s : State) : SameBut bs s s := by
  constructor <;> intros <;> rfl

section
variable (s : State)

@[simp] theorem State.startStatus_sent : s.startStatus.status.repeatTimer = s.status.repeatTimer
    ∧ s.startStatus.supply.bare = s.supply.bare := ⟨rfl, rfl⟩

@[simp] theorem State.requestStatus_sent : s.requestStatus.status.repeatTimer = s.status.repeatTimer
    ∧ s.requestStatus.supply.bare = s.supply.bare := by
  unfold State.requestStatus
  split <;> exact ⟨rfl, rfl⟩

@[simp] theorem State.askSleep_sent : s.askSleep.status.repeatTimer = s.status.repeatTimer ∧ s.askSleep.supply.bare = s.supply.bare := by
  unfold State.askSleep
  split
  · split
    · split
      · exact State.requestStatus_sent _
      all_goals exact ⟨rfl, rfl⟩
    · exact ⟨rfl, rfl⟩
  · exact ⟨rfl, rfl⟩

@[simp] theorem State.clearSleepRequest_bare : s.clearSleepRequest.supply.bare = s.supply.bare := rfl

@[simp] theorem State.statusEnds_sent : s.statusEnds.status.repeatTimer = s.status.repeatTimer
    ∧ s.statusEnds.supply.bare = s.supply.bare := by
  unfold State.statusEnds
  dsimp only
  constructor <;> (repeat' split) <;> rfl

@[simp] theorem State.oscillatorStable_repeatTimer : s.oscillatorStable.status.repeatTimer = s.status.repeatTimer := by
  unfold State.oscillatorStable
  dsimp only
  split <;> rfl

@[simp] theorem State.applyRaising_sent : s.applyRaising.status.repeatTimer = s.status.repeatTimer
    ∧ s.applyRaising.supply.bare = s.supply.bare := by
  simp [State.applyRaising]

@[simp] theorem State.runPoints_sent : s.runPoints.status.repeatTimer = s.status.repeatTimer
    ∧ s.runPoints.supply.bare = s.supply.bare := by
  unfold State.runPoints
  (repeat' split) <;> simp [apply_ite State.status, apply_ite State.supply, apply_ite StatusState.repeatTimer, apply_ite SupplyState.bare]

@[simp] theorem State.computationCompletes_sent : s.computationCompletes.status.repeatTimer = s.status.repeatTimer
    ∧ s.computationCompletes.supply.bare = s.supply.bare := by
  simp [State.computationCompletes, apply_ite State.status, apply_ite State.supply]

@[simp] theorem State.clearStanding_bare : s.clearStanding.supply.bare = s.supply.bare := by
  simp [State.clearStanding]

@[simp] theorem State.enterMuted_bare : s.enterMuted.supply.bare = s.supply.bare := by
  simp [State.enterMuted]

@[simp] theorem State.takeReference_bare (o : Opening) : (s.takeReference o).supply.bare = s.supply.bare := by
  simp [State.takeReference, apply_ite State.supply]

@[simp] theorem State.clash_bare : s.clash.supply.bare = s.supply.bare := by
  simp [State.clash, apply_ite State.supply, apply_ite SupplyState.bare]

@[simp] theorem State.openingCompletes_bare (o : Opening) : (s.openingCompletes o).supply.bare = s.supply.bare := by
  unfold State.openingCompletes
  dsimp only
  (repeat' split) <;> simp

@[simp] theorem State.noticeCompletes_bare (n : Notice) : (s.noticeCompletes n).supply.bare = s.supply.bare := by
  unfold State.noticeCompletes
  dsimp only
  split <;> simp

@[simp] theorem State.losesReference_bare : s.losesReference.supply.bare = s.supply.bare := by
  simp [State.losesReference]

@[simp] theorem State.setBand_bare (b : Band) : (s.setBand b).supply.bare = s.supply.bare := by
  unfold State.setBand
  dsimp only
  split <;> simp

@[simp] theorem State.evaluated_bare : s.evaluated.supply.bare = s.supply.bare := by
  unfold State.evaluated
  dsimp only
  (repeat' split) <;> simp

end

theorem SameBut.askSleep {bs : List Block} {s t : State} (h : SameBut bs s t) : SameBut bs s t.askSleep := by
  obtain ⟨⟩ := h
  constructor <;> simp_all

/-- A command leaves every block as it is that it does not touch. -/
theorem effect_sameBut (c : Instr) (s : State) : SameBut (touched c) s (effect c s) := by
  cases c
  case retainedStoreLoss => 
    simp only [effect, exec, execRetainedStoreLoss]
    split
    · constructor <;> simp [touched]
    · exact .refl ..
  case start =>
    simp only [effect, exec, execStart]
    split
    · constructor <;> simp [touched, State.started]
    · exact .refl ..
  case supplyDipReset =>
    exact effect_keeps (P := SameBut _ s) (fun t => SameBut.askSleep) rfl (.refl ..) (by constructor <;> simp [touched, State.inReset])
  all_goals
    refine effect_keeps (P := SameBut _ s) (fun t => SameBut.askSleep) rfl (.refl ..) ?_
    (repeat' split)
    all_goals constructor
    all_goals
      simp [touched, apply_ite State.clock, apply_ite State.pending, apply_ite State.supply, apply_ite State.pins, apply_ite State.round,
       apply_ite State.peers,
       apply_ite State.share,
       apply_ite State.demand,
       apply_ite State.line,
       apply_ite State.conv,
       apply_ite State.batt,
       apply_ite State.term,
       apply_ite State.test,
       apply_ite State.status
       ]
end Sys2Proof.Machine

end

section
/-! ## The laws of the round controller and of the share unit -/

namespace Sys2Proof.Machine

section
variable (s : State)

/-! ### The close event (R12) -/

@[simp] theorem State.closeRound_peers : s.closeRound.peers = s.peers.assemble := by
  simp [State.closeRound]

@[simp] theorem State.closeRound_round : s.closeRound.round
    = { s.round with closePending := false, viewOutage := outageSeen s.peers.records } := by
  simp [State.closeRound]

@[simp] theorem State.closeRound_line : s.closeRound.line = s.line.dropNotices := by
  simp [State.closeRound]

@[simp] theorem State.closeRound_demand : s.closeRound.demand = { s.demand with claimsOpen := false } := by
  simp [State.closeRound]

/-- A request for the reciprocal stage writes nothing but the stage and what waits for it (R48). -/
@[simp] theorem ShareState.askStage_frame (h : ShareState) (u : StageUser) (now : Time) :
    (h.askStage u now).budgetUsed = h.budgetUsed ∧ (h.askStage u now).computedFeed = h.computedFeed
      ∧ (h.askStage u now).computedCharge = h.computedCharge ∧ (h.askStage u now).feedGrant = h.feedGrant
      ∧ (h.askStage u now).chargeGrant = h.chargeGrant ∧ (h.askStage u now).inFlight = h.inFlight := by
  obtain ⟨-, he⟩ | ⟨-, -, -, he⟩ | ⟨-, he⟩ := h.askStage_cases u now <;> simp [he]

@[simp] theorem State.startShare_share (b : Nat) : (s.startShare b).share.budgetUsed = b ∧ (s.startShare b).share.inFlight = true
    ∧ (s.startShare b).share.computedFeed = s.share.computedFeed ∧ (s.startShare b).share.computedCharge = s.share.computedCharge
    ∧ (s.startShare b).share.feedGrant = s.share.feedGrant ∧ (s.startShare b).share.chargeGrant = s.share.chargeGrant := by
  unfold State.startShare
  dsimp only
  split <;> simp

@[simp] theorem State.closeRound_share : s.closeRound.share.budgetUsed = s.peers.budget s.ownEstimate ∧ s.closeRound.share.inFlight = true
    ∧ s.closeRound.share.computedFeed = s.share.computedFeed ∧ s.closeRound.share.computedCharge = s.share.computedCharge
    ∧ s.closeRound.share.feedGrant = s.share.feedGrant ∧ s.closeRound.share.chargeGrant = s.share.chargeGrant := by
  simp [State.closeRound]

/-! ### The round timer's expiry (R6) -/

@[simp] theorem State.handleExpiry_round : s.handleExpiry.round = { s.round with
    missed := s.suppressed || s.round.missed
    timer := some (s.clock + period s.round.tempo + s.skew) } := by
  unfold State.handleExpiry
  (repeat' split) <;> simp_all [State.skew, State.address]

/-- Mains-fail arming (R15). -/
@[simp] theorem State.mainsFailArming_round : s.mainsFailArming.round = { s.round with
    timer := if s.round.participation = .member ∧ s.round.tempo = .slow then
        s.round.timer.map fun e => min e (max s.clock (s.roundMoment 700) + ms 50 + s.skew)
      else s.round.timer } := by
  unfold State.mainsFailArming
  split
  · split
    next h =>
      have hnone : (s.round.timer.map fun e => min e (max s.clock (s.roundMoment 700) + ms 50 + s.skew)) = s.round.timer := by
        rw [h]
        rfl
      rw [hnone]
    next h => simp [h]
  · rfl

theorem State.mainsFails_round : s.mainsFails.round = { s.round with timer := s.mainsFails.round.timer } := by
  simp [State.mainsFails]

/-! ### The end of a frame that is not taken (R6, R12) -/

/-- The close event that waited for the frame's end, if one did. -/
def State.closedIfDue : State := if s.closeDue then s.closeRound else s

theorem State.frameEnded_eq : s.frameEnded = if s.timerExpired then s.closedIfDue.handleExpiry else s.closedIfDue := by
  have htimer : s.closedIfDue.timerExpired = s.timerExpired := by
    unfold State.closedIfDue State.timerExpired
    split <;> simp
  rw [← htimer]
  rfl

@[simp] theorem State.closedIfDue_clock : s.closedIfDue.clock = s.clock := by
  unfold State.closedIfDue
  split <;> simp

@[simp] theorem State.closedIfDue_supply : s.closedIfDue.supply = s.supply := by
  unfold State.closedIfDue
  split <;> simp

@[simp] theorem State.closedIfDue_peers : s.closedIfDue.peers = if s.closeDue then s.peers.assemble else s.peers := by
  simp [State.closedIfDue, apply_ite State.peers]

@[simp] theorem State.closedIfDue_round : s.closedIfDue.round = { s.round with
    closePending := s.round.closePending && !s.closeDue
    viewOutage := if s.closeDue then outageSeen s.peers.records else s.round.viewOutage } := by
  cases h : s.closeDue <;> simp [State.closedIfDue, h]

@[simp] theorem State.closedIfDue_line : s.closedIfDue.line = if s.closeDue then s.line.dropNotices else s.line := by
  simp [State.closedIfDue, apply_ite State.line]

@[simp] theorem State.closedIfDue_share : s.closedIfDue.share.computedFeed = s.share.computedFeed
    ∧ s.closedIfDue.share.computedCharge = s.share.computedCharge
    ∧ s.closedIfDue.share.feedGrant = s.share.feedGrant ∧ s.closedIfDue.share.chargeGrant = s.share.chargeGrant := by
  unfold State.closedIfDue
  split <;> simp

@[simp] theorem State.frameEnded_peers : s.frameEnded.peers = if s.closeDue then s.peers.assemble else s.peers := by
  rw [State.frameEnded_eq]
  split <;> simp

@[simp] theorem State.frameEnded_round : s.frameEnded.round = { s.round with
    closePending := s.round.closePending && !s.closeDue
    viewOutage := if s.closeDue then outageSeen s.peers.records else s.round.viewOutage
    missed := (s.timerExpired && s.suppressed) || s.round.missed
    timer := if s.timerExpired then some (s.clock + period s.round.tempo + s.skew) else s.round.timer } := by
  have hsuppressed : s.closedIfDue.suppressed = s.suppressed := by simp [State.suppressed]
  rw [State.frameEnded_eq]
  cases s.timerExpired <;> simp [hsuppressed, State.skew, State.address]

@[simp] theorem State.frameEnded_share : s.frameEnded.share.computedFeed = s.share.computedFeed
    ∧ s.frameEnded.share.computedCharge = s.share.computedCharge
    ∧ s.frameEnded.share.feedGrant = s.share.feedGrant ∧ s.frameEnded.share.chargeGrant = s.share.chargeGrant := by
  rw [State.frameEnded_eq]
  split <;> simp

/-! ### Grants in force (R51 to R53) -/

@[simp] theorem State.applyLowering_share : s.applyLowering.share = { s.share with
    feedGrant := min s.share.feedGrant s.share.computedFeed, chargeGrant := min s.share.chargeGrant s.share.computedCharge } := by
  unfold State.applyLowering
  dsimp only
  (repeat' split) <;> simp

@[simp] theorem State.applyRaising_share : s.applyRaising.share = s.share.raised s.ceiling := by
  simp [State.applyRaising]

/-- The lowering point is applied where its moment has come and the round's computation is complete (R13). -/
def State.lowersNow : Bool :=
  !s.share.inFlight && !s.round.closePending && s.round.loweringPending && s.round.loweringDue

/-- The raising point is applied likewise, directly after a lowering that is applied, and not before one that waits (R13). -/
def State.raisesNow : Bool :=
  !s.share.inFlight && !s.round.closePending && s.round.raisingPending && s.round.raisingDue
    && (s.lowersNow || !s.round.loweringPending)

/-- The lowering point applied, if it is to be. -/
def State.lowered : State :=
  if s.lowersNow then State.applyLowering { s with round := { s.round with loweringPending := false, loweringDue := false } } else s

@[simp] theorem State.lowered_round : s.lowered.round = { s.round with
    loweringPending := s.round.loweringPending && !s.lowersNow, loweringDue := s.round.loweringDue && !s.lowersNow } := by
  cases h : s.lowersNow <;> simp [State.lowered, h]

@[simp] theorem State.lowered_share : s.lowered.share = { s.share with
    feedGrant := if s.lowersNow then min s.share.feedGrant s.share.computedFeed else s.share.feedGrant
    chargeGrant := if s.lowersNow then min s.share.chargeGrant s.share.computedCharge else s.share.chargeGrant } := by
  cases h : s.lowersNow <;> simp [State.lowered, h]

@[simp] theorem State.lowered_frame : s.lowered.clock = s.clock ∧ s.lowered.supply = s.supply ∧ s.lowered.pins = s.pins
    ∧ s.lowered.peers = s.peers ∧ s.lowered.demand = s.demand ∧ s.lowered.line = s.line ∧ s.lowered.status = s.status
    ∧ s.lowered.pending = s.pending := by
  cases h : s.lowersNow <;> simp [State.lowered, h]

theorem State.runPoints_eq : s.runPoints = if s.raisesNow then
      State.applyRaising { s.lowered with round := { s.lowered.round with raisingPending := false, raisingDue := false, reportPending := false } }
    else s.lowered := by
  unfold State.runPoints State.raisesNow
  by_cases hwait : s.share.inFlight = true ∨ s.round.closePending = true
  · have hlow : s.lowersNow = false := by unfold State.lowersNow; grind
    rw [if_pos hwait, if_neg (by grind), State.lowered, hlow]
    rfl
  · have hlow : s.lowersNow = decide (s.round.loweringPending = true ∧ s.round.loweringDue = true) := by unfold State.lowersNow; grind
    rw [if_neg hwait]
    dsimp only
    by_cases hl : s.round.loweringPending = true ∧ s.round.loweringDue = true
    · simp_all [State.lowered]
    · rw [if_neg hl, State.lowered, hlow, decide_eq_false hl]
      simp_all [and_assoc]

@[simp] theorem State.runPoints_round : s.runPoints.round = { s.round with
    loweringPending := s.round.loweringPending && !s.lowersNow, loweringDue := s.round.loweringDue && !s.lowersNow
    raisingPending := s.round.raisingPending && !s.raisesNow, raisingDue := s.round.raisingDue && !s.raisesNow
    reportPending := s.round.reportPending && !s.raisesNow } := by
  rw [State.runPoints_eq]
  cases h : s.raisesNow <;> simp

@[simp] theorem State.runPoints_share : s.runPoints.share
    = if s.raisesNow then s.lowered.share.raised s.ceiling else s.lowered.share := by
  rw [State.runPoints_eq]
  cases h : s.raisesNow <;> simp [State.ceiling]

@[simp] theorem State.clearStanding_round : s.clearStanding.round = s.round.dropPoints := by
  simp [State.clearStanding]

@[simp] theorem State.clearStanding_share : s.clearStanding.share = { s.share with feedGrant := 0, chargeGrant := 0 } := by
  simp [State.clearStanding]

@[simp] theorem State.clearStanding_demand : s.clearStanding.demand = { s.demand with claimsOpen := false } := by
  simp [State.clearStanding]

@[simp] theorem State.enterMuted_round : s.enterMuted.round
    = { s.round.dropPoints with participation := .muted, timer := none, joinTimer := none } := by
  simp [State.enterMuted, RoundState.dropPoints]

@[simp] theorem State.enterMuted_share : s.enterMuted.share = { s.share with feedGrant := 0, chargeGrant := 0 } := by
  simp [State.enterMuted]

@[simp] theorem State.enterMuted_peers : s.enterMuted.peers = s.peers.remove s.address := by
  simp [State.enterMuted]

@[simp] theorem State.enterMuted_line : s.enterMuted.line = s.line.clearQueue := by
  simp [State.enterMuted]

@[simp] theorem State.enterMuted_demand : s.enterMuted.demand = { s.demand with claimsOpen := false } := by
  simp [State.enterMuted]

@[simp] theorem State.finishShare_grants : s.finishShare.share.feedGrant = s.share.feedGrant
    ∧ s.finishShare.share.chargeGrant = s.share.chargeGrant ∧ s.finishShare.share.inFlight = false
    ∧ s.finishShare.share.budgetUsed = s.share.budgetUsed
    ∧ s.finishShare.share.computedFeed = grantAt s.peers.view s.share.budgetUsed s.address false
    ∧ s.finishShare.share.computedCharge = grantAt s.peers.view s.share.budgetUsed s.address true := by
  unfold State.finishShare
  dsimp only
  split <;> simp [ShareState.releaseStage]

/-- A lowering owed to an early opening, applied (R14). -/
def State.owedApplied : State :=
  if s.round.owedLowering then State.applyLowering { s with round := { s.round with owedLowering := false } } else s

@[simp] theorem State.owedApplied_round : s.owedApplied.round = { s.round with owedLowering := false } := by
  unfold State.owedApplied
  split
  · simp
  next h => rw [← Bool.eq_false_iff.2 h]

@[simp] theorem State.owedApplied_share : s.owedApplied.share = { s.share with
    feedGrant := if s.round.owedLowering then min s.share.feedGrant s.share.computedFeed else s.share.feedGrant
    chargeGrant := if s.round.owedLowering then min s.share.chargeGrant s.share.computedCharge else s.share.chargeGrant } := by
  cases h : s.round.owedLowering <;> simp [State.owedApplied, h]

@[simp] theorem State.owedApplied_frame : s.owedApplied.clock = s.clock ∧ s.owedApplied.supply = s.supply ∧ s.owedApplied.pins = s.pins
    ∧ s.owedApplied.peers = s.peers ∧ s.owedApplied.demand = s.demand ∧ s.owedApplied.line = s.line ∧ s.owedApplied.status = s.status
    ∧ s.owedApplied.pending = s.pending := by
  unfold State.owedApplied
  split <;> simp

theorem State.computationCompletes_eq : s.computationCompletes = s.finishShare.owedApplied.runPoints.raiseCarry := rfl

/-! ### The end of a round at the next reference (R14) -/

/-- The close event that an early opening finds pending, taken (R14). -/
def State.closedIfPending : State := if s.round.closePending then s.closeRound else s

/-- An early opening finds a lowering that was not applied yet (R14). -/
def State.owesLowering : Bool :=
  decide (s.round.participation = .member) && (s.round.loweringPending || s.round.owedLowering)

theorem State.settlePrevious_eq : s.settlePrevious =
    let t : State := { s.closedIfPending with round := s.closedIfPending.round.dropPoints }
    if s.owesLowering then
      if t.share.inFlight then { t with round := { t.round with owedLowering := true } } else t.applyLowering
    else t := rfl

@[simp] theorem State.closedIfPending_peers : s.closedIfPending.peers = if s.round.closePending then s.peers.assemble else s.peers := by
  simp [State.closedIfPending, apply_ite State.peers]

@[simp] theorem State.closedIfPending_line : s.closedIfPending.line = if s.round.closePending then s.line.dropNotices else s.line := by
  simp [State.closedIfPending, apply_ite State.line]

@[simp] theorem State.closedIfPending_round : s.closedIfPending.round = { s.round with
    closePending := false, viewOutage := if s.round.closePending then outageSeen s.peers.records else s.round.viewOutage } := by
  unfold State.closedIfPending
  split
  · simp
  next h => rw [← Bool.eq_false_iff.2 h]

@[simp] theorem State.closedIfPending_demand : s.closedIfPending.demand
    = { s.demand with claimsOpen := s.demand.claimsOpen && !s.round.closePending } := by
  cases h : s.round.closePending <;> simp [State.closedIfPending, h]

@[simp] theorem State.closedIfPending_share : s.closedIfPending.share.computedFeed = s.share.computedFeed
    ∧ s.closedIfPending.share.computedCharge = s.share.computedCharge
    ∧ s.closedIfPending.share.feedGrant = s.share.feedGrant ∧ s.closedIfPending.share.chargeGrant = s.share.chargeGrant
    ∧ s.closedIfPending.share.inFlight = (s.share.inFlight || s.round.closePending) := by
  cases h : s.round.closePending <;> simp [State.closedIfPending, h]

@[simp] theorem State.settlePrevious_peers : s.settlePrevious.peers = if s.round.closePending then s.peers.assemble else s.peers := by
  rw [State.settlePrevious_eq]
  dsimp only
  (repeat' split) <;> simp_all

@[simp] theorem State.settlePrevious_line : s.settlePrevious.line = if s.round.closePending then s.line.dropNotices else s.line := by
  rw [State.settlePrevious_eq]
  dsimp only
  (repeat' split) <;> simp_all

@[simp] theorem State.settlePrevious_demand : s.settlePrevious.demand
    = { s.demand with claimsOpen := s.demand.claimsOpen && !s.round.closePending } := by
  rw [State.settlePrevious_eq]
  dsimp only
  (repeat' split) <;> simp

@[simp] theorem State.settlePrevious_round : s.settlePrevious.round = { s.round.dropPoints with
    closePending := false
    viewOutage := if s.round.closePending then outageSeen s.peers.records else s.round.viewOutage
    owedLowering := s.owesLowering && (s.share.inFlight || s.round.closePending) } := by
  rw [State.settlePrevious_eq]
  cases s.owesLowering <;> cases h : s.share.inFlight || s.round.closePending <;> simp [RoundState.dropPoints, h]

@[simp] theorem State.settlePrevious_grants :
    (s.settlePrevious.share.feedGrant = if s.owesLowering && !(s.share.inFlight || s.round.closePending)
        then min s.share.feedGrant s.share.computedFeed else s.share.feedGrant)
      ∧ s.settlePrevious.share.chargeGrant = if s.owesLowering && !(s.share.inFlight || s.round.closePending)
        then min s.share.chargeGrant s.share.computedCharge else s.share.chargeGrant := by
  rw [State.settlePrevious_eq]
  cases s.owesLowering <;> cases h : s.share.inFlight || s.round.closePending <;> simp [h]

/-! ### The reference (R9) -/

@[simp] theorem State.takeReference_peers (o : Opening) : (s.takeReference o).peers
    = (if s.round.closePending then s.peers.assemble else s.peers).examine o.round := by
  simp [State.takeReference, apply_ite State.peers]

@[simp] theorem State.takeReference_round (o : Opening) : (s.takeReference o).round = { s.round with
    t0 := s.line.frameStart, tempo := o.tempo, number := o.round, adopted := true, referenced := true, missed := false
    timer := if s.round.participation = .member then some (s.line.frameStart + period o.tempo + s.skew) else none
    closePending := true, loweringPending := true, raisingPending := true, reportPending := true, loweringDue := false
    raisingDue := false, owedLowering := s.owesLowering && (s.share.inFlight || s.round.closePending)
    viewOutage := if s.round.closePending then outageSeen s.peers.records else s.round.viewOutage } := by
  have hstart : (({ s with line := s.line.dropOpenings } : State).settlePrevious.line).frameStart = s.line.frameStart := by
    simp only [State.settlePrevious_line]
    split <;> rfl
  have hmember : ({ s with line := s.line.dropOpenings } : State).settlePrevious.round.participation = s.round.participation := by simp [RoundState.dropPoints]
  simp only [State.takeReference]
  rw [apply_ite State.round, hstart, hmember]
  simp [State.owesLowering, RoundState.dropPoints, State.skew, State.address]

@[simp] theorem State.takeReference_grants (o : Opening) :
    ((s.takeReference o).share.feedGrant = if s.owesLowering && !(s.share.inFlight || s.round.closePending)
        then min s.share.feedGrant s.share.computedFeed else s.share.feedGrant)
      ∧ (s.takeReference o).share.chargeGrant = if s.owesLowering && !(s.share.inFlight || s.round.closePending)
        then min s.share.chargeGrant s.share.computedCharge else s.share.chargeGrant := by
  simp [State.takeReference, apply_ite State.share, State.owesLowering]

/-! ### The test unit's use of the reciprocal stage (R48) -/

@[simp] theorem State.testDone_share (c : TestContext) : (s.testDone c).share
    = if c.loadGood then s.share.askStage .test s.clock else s.share := by
  simp [State.testDone, State.resultOf, apply_ite State.share]

@[simp] theorem State.resistanceKnown_share (r : ResultInHand) : (s.resistanceKnown r).share = s.share.releaseStage := by
  simp [State.resistanceKnown]

/-! ### Frames that complete (R9, R19, R26) -/

@[simp] theorem State.completeFrame_round : s.completeFrame.round = { s.round with lastValid := some s.clock } := by
  simp [State.completeFrame]

/-- The station once it is MUTED by a clash, if it was not before. -/
def State.mutedByClash : State := if s.round.participation = .muted then s else s.enterMuted

theorem State.clash_eq : s.clash = s.mutedByClash.frameEnded.settleRepeat := rfl

/-- The line controller that has found its line stuck (R106). -/
def LineState.stuckLine (l : LineState) : LineState :=
  { l.clearQueue with
    stuck := true, driver := .recessive, driveTime := 0
    role := if l.phase = .frame ∧ l.role = .transmitter then .receiver else l.role
    clearingRun := 0, recoveryBits := 0 }

theorem State.getsStuck_eq : s.getsStuck = State.closedIfDue { s with line := s.line.stuckLine } := rfl

/-- The line controller at the end of an error delimiter (R99, R102). -/
def LineState.afterDelimiter (l : LineState) : LineState :=
  let m := { l with phase := .gap, role := .none, driver := .recessive, error := none, gapBits := 0, rxBits := [] }
  if 2 ≤ m.failed then { m.dropTo m.queue.tail with failed := 0 } else m

theorem State.delimiterEnds_eq : s.delimiterEnds = State.frameEnded { s with line := s.line.afterDelimiter } := rfl

@[simp] theorem State.joinExpires_round : s.joinExpires.round
    = { s.round with participation := .member, joinTimer := none, timer := some (s.clock + s.skew) } := by
  simp [State.joinExpires]

end
end Sys2Proof.Machine

end

section
/-! ## The peer table -/

namespace Sys2Proof.Machine

/-! ### The frame of a cycle -/

/-- A cycle changes the clock, the pins and the line controller alone (log 1). -/
@[simp] theorem State.tick_frame (s : State) :
    s.tick.clock = s.clock + 1 ∧ s.tick.supply = s.supply ∧ s.tick.round = s.round ∧ s.tick.peers = s.peers ∧ s.tick.share = s.share
      ∧ s.tick.demand = s.demand ∧ s.tick.conv = s.conv ∧ s.tick.batt = s.batt ∧ s.tick.term = s.term ∧ s.tick.test = s.test
      ∧ s.tick.status = s.status ∧ s.tick.pending = s.pending := by
  unfold State.tick
  dsimp only
  (repeat' split) <;> simp

/-! ### Addresses in ascending order -/

theorem recordsSorted_iff (l : List (Addr × PeerRecord)) : recordsSorted l ↔ l.Pairwise fun e f => e.1.val < f.1.val :=
  List.pairwise_map

theorem recordsSorted_filter {l : List (Addr × PeerRecord)} (p : Addr × PeerRecord → Bool) (h : recordsSorted l) :
    recordsSorted (l.filter p) := by
  rw [recordsSorted_iff] at h ⊢
  exact h.filter p

theorem recordsSorted_map {l : List (Addr × PeerRecord)} (f : Addr × PeerRecord → Addr × PeerRecord) (hf : ∀ e, (f e).1 = e.1)
    (h : recordsSorted l) : recordsSorted (l.map f) := by
  rw [recordsSorted_iff] at h ⊢
  exact List.pairwise_map.2 (by simpa only [hf] using h)

/-- A table after a write holds what it held and the record written. -/
theorem mem_putRecord {a : Addr} {r : PeerRecord} {l : List (Addr × PeerRecord)} {e : Addr × PeerRecord} (h : e ∈ putRecord a r l) :
    e = (a, r) ∨ e ∈ l := by
  induction l with
  | nil => simpa [putRecord] using h
  | cons x l ih =>
    obtain ⟨b, y⟩ := x
    unfold putRecord at h
    (repeat' split at h) <;> grind

theorem recordsSorted_putRecord (a : Addr) (r : PeerRecord) {l : List (Addr × PeerRecord)} (h : recordsSorted l) :
    recordsSorted (putRecord a r l) := by
  rw [recordsSorted_iff] at h ⊢
  induction l with
  | nil => simp [putRecord]
  | cons e l ih =>
    obtain ⟨b, x⟩ := e
    obtain ⟨hb, hl⟩ := List.pairwise_cons.1 h
    unfold putRecord
    split
    case isTrue hab => exact List.pairwise_cons.2 ⟨hab ▸ hb, hl⟩
    case isFalse hab =>
      split
      case isTrue hlt =>
        refine List.pairwise_cons.2 ⟨fun e he => ?_, h⟩
        obtain rfl | he := List.mem_cons.1 he
        · exact hlt
        · exact Nat.lt_trans hlt (hb e he)
      case isFalse hge =>
        refine List.pairwise_cons.2 ⟨fun e he => ?_, ih hl⟩
        obtain rfl | he := mem_putRecord he
        · have : a.val ≠ b.val := fun e => hab (Fin.ext e)
          change b.val < a.val
          omega
        · exact hb e he

/-! ### The present mask -/

theorem mask_ext {m n : BitVec 64} (h : ∀ a, maskHas m a = maskHas n a) : m = n :=
  BitVec.eq_of_getLsbD_eq fun i hi => h ⟨i, hi⟩

@[simp] theorem maskHas_zero (a : Addr) : maskHas 0#64 a = false := by simp [maskHas]

/-- An address is present exactly if a record of it is occupied (R36). -/
theorem maskHas_presentMask (l : List (Addr × PeerRecord)) (a : Addr) :
    maskHas (presentMask l) a = l.any fun e => decide (e.1 = a) && e.2.occupied := by
  have hfold (m : BitVec 64) : maskHas (l.foldl (fun m e => if e.2.occupied then maskSet m e.1 else m) m) a
      = (maskHas m a || l.any fun e => decide (e.1 = a) && e.2.occupied) := by
    induction l generalizing m with
    | nil => simp
    | cons e l ih =>
      rw [List.foldl_cons, ih]
      cases ho : e.2.occupied <;> simp [ho, Bool.or_left_comm, Bool.or_assoc]
  rw [presentMask, hfold, maskHas_zero, Bool.false_or]

/-- In a sorted table an address has one record, the one that is found. -/
theorem any_eq_findRecord {l : List (Addr × PeerRecord)} (h : recordsSorted l) (a : Addr) (p : PeerRecord → Bool) :
    (l.any fun e => decide (e.1 = a) && p e.2) = (findRecord a l).any p := by
  rw [recordsSorted_iff] at h
  induction l with
  | nil => rfl
  | cons e l ih =>
    obtain ⟨b, x⟩ := e
    obtain ⟨hb, hl⟩ := List.pairwise_cons.1 h
    unfold findRecord
    split
    case isTrue hab =>
      subst hab
      have hnone : (l.any fun e => decide (e.1 = a) && p e.2) = false := by
        simp only [List.any_eq_false, Bool.and_eq_true, decide_eq_true_eq, not_and]
        intro e he heq
        exact absurd (hb e he) (by simp [heq])
      simp [hnone]
    case isFalse hab => simpa [Ne.symm hab] using ih hl

theorem maskHas_presentMask_of_sorted {l : List (Addr × PeerRecord)} (h : recordsSorted l) (a : Addr) :
    maskHas (presentMask l) a = (findRecord a l).any PeerRecord.occupied := by
  rw [maskHas_presentMask, any_eq_findRecord h]

theorem presentMask_putRecord (a : Addr) (r : PeerRecord) {l : List (Addr × PeerRecord)} (h : recordsSorted l) :
    presentMask (putRecord a r l) = if r.occupied then maskSet (presentMask l) a else maskClear (presentMask l) a := by
  refine mask_ext fun b => ?_
  rw [maskHas_presentMask_of_sorted (recordsSorted_putRecord a r h)]
  by_cases hb : b = a
  · subst hb
    cases ho : r.occupied <;> simp [ho]
  · rw [findRecord_putRecord_of_ne a b r l hb, ← maskHas_presentMask_of_sorted h]
    split <;> simp [Ne.symm hb]

theorem presentMask_removeRecord (a : Addr) {l : List (Addr × PeerRecord)} (h : recordsSorted l) :
    presentMask (removeRecord a l) = maskClear (presentMask l) a := by
  have hsorted : recordsSorted (removeRecord a l) := recordsSorted_filter _ h
  refine mask_ext fun b => ?_
  rw [maskHas_presentMask_of_sorted hsorted]
  by_cases hb : b = a
  · subst hb
    simp
  · rw [findRecord_removeRecord_of_ne a b l hb, ← maskHas_presentMask_of_sorted h]
    simp [Ne.symm hb]

theorem presentMask_map (f : Addr × PeerRecord → Addr × PeerRecord) (hf : ∀ e, (f e).1 = e.1 ∧ (f e).2.occupied = e.2.occupied)
    (l : List (Addr × PeerRecord)) : presentMask (l.map f) = presentMask l := by
  refine mask_ext fun a => ?_
  simp only [maskHas_presentMask, List.any_map, Function.comp_def, (hf _).1, (hf _).2]

/-! ### What the operations on the table keep -/

/-- A peer table in the form that PeersSafe asks for. -/
def PeerState.Canonical (p : PeerState) : Prop :=
  recordsSorted p.records ∧ p.present = presentMask p.records

theorem peersSafe_iff (s : State) : PeersSafe s ↔ s.peers.Canonical := Iff.rfl

theorem PeerState.Canonical.empty : PeerState.Canonical {} := ⟨.nil, rfl⟩

section
variable {p : PeerState} (h : p.Canonical)
include h

theorem PeerState.Canonical.record (n : Notice) (tag : Option (BitVec 8)) : (p.record n tag).Canonical :=
  ⟨recordsSorted_putRecord _ _ h.1, by rw [PeerState.record, h.2]; exact (presentMask_putRecord _ _ h.1).symm⟩

theorem PeerState.Canonical.remove (a : Addr) : (p.remove a).Canonical :=
  ⟨recordsSorted_filter _ h.1, by rw [PeerState.remove, h.2]; exact (presentMask_removeRecord _ h.1).symm⟩

theorem PeerState.Canonical.examine (number : BitVec 8) : (p.examine number).Canonical := by
  refine ⟨recordsSorted_map _ (fun e => by split <;> rfl) h.1, h.2.trans (presentMask_map _ (fun e => ?_) _).symm⟩
  split
  · exact ⟨rfl, rfl⟩
  · exact ⟨rfl, by simp [PeerRecord.unheard, PeerRecord.occupied]⟩

theorem PeerState.Canonical.assemble : p.assemble.Canonical :=
  ⟨recordsSorted_filter _ (recordsSorted_map _ (fun _ => rfl) h.1), rfl⟩

end

/-! ### What the commands keep -/

/-- A property of the peer table that the four operations writing it keep, and that the table of a start has. -/
structure PeersClosed (P : PeerState → Prop) : Prop where
  empty : P {}
  record : ∀ {p}, P p → ∀ (n : Notice) (tag : Option (BitVec 8)), P (p.record n tag)
  remove : ∀ {p}, P p → ∀ a : Addr, P (p.remove a)
  examine : ∀ {p}, P p → ∀ number : BitVec 8, P (p.examine number)
  assemble : ∀ {p}, P p → P p.assemble

section
variable {P : PeerState → Prop} (hP : PeersClosed P)
include hP

theorem PeersClosed.assembleIf {p : PeerState} (h : P p) (b : Bool) : P (if b then p.assemble else p) := by
  split
  · exact hP.assemble h
  · exact h

variable {s : State} (h : P s.peers)
include h

omit hP in
theorem PeersClosed.congr {t : State} (ht : t.peers = s.peers) : P t.peers := ht ▸ h

theorem PeersClosed.closeRound : P s.closeRound.peers := by
  rw [State.closeRound_peers]
  exact hP.assemble h

theorem PeersClosed.enterMuted : P s.enterMuted.peers := by
  rw [State.enterMuted_peers]
  exact hP.remove h _

theorem PeersClosed.frameEnded : P s.frameEnded.peers := by
  rw [State.frameEnded_peers]
  exact hP.assembleIf h _

theorem PeersClosed.takeReference (o : Opening) : P (s.takeReference o).peers := by
  rw [State.takeReference_peers]
  exact hP.examine (hP.assembleIf h _) _

theorem PeersClosed.clash : P s.clash.peers := by
  have hmuted : P s.mutedByClash.peers := by
    unfold State.mutedByClash
    split
    · exact h
    · exact hP.enterMuted h
  rw [State.clash_eq]
  exact PeersClosed.congr (hP.frameEnded hmuted) (by simp)

theorem PeersClosed.openingCompletes (o : Opening) : P (s.openingCompletes o).peers := by
  have hcomplete : P s.completeFrame.peers := PeersClosed.congr h (by simp)
  have hjoined (r : RoundState) : P (State.takeReference { s.completeFrame with round := r } o).peers :=
    hP.takeReference (s := { s.completeFrame with round := r }) hcomplete o
  unfold State.openingCompletes
  dsimp only
  split
  · exact hP.clash hcomplete
  · split
    · exact hP.frameEnded hcomplete
    · split
      · exact PeersClosed.congr (hjoined _) (State.settleRepeat_frame _).2.2.2.2.1
      · exact PeersClosed.congr (hP.takeReference hcomplete o) (by simp)

theorem PeersClosed.noticeCompletes (n : Notice) : P (s.noticeCompletes n).peers := by
  have hcomplete : P s.completeFrame.peers := PeersClosed.congr h (by simp)
  have hrecord : P ({ s.completeFrame with peers := s.completeFrame.peers.record n s.completeFrame.heardTag } : State).retarget.peers := by
    rw [(State.retarget_frame _).2.2.2.2.1]
    exact hP.record hcomplete n _
  unfold State.noticeCompletes
  dsimp only
  split
  · exact hP.clash hcomplete
  · exact hP.frameEnded hrecord

theorem PeersClosed.getsStuck : P s.getsStuck.peers := by
  rw [State.getsStuck_eq, State.closedIfDue_peers]
  exact hP.assembleIf h _

theorem PeersClosed.delimiterEnds : P s.delimiterEnds.peers := by
  rw [State.delimiterEnds_eq, State.frameEnded_peers]
  exact hP.assembleIf h _

/-- Four operations write the peer table, and each keeps the property; the other commands leave the table as it is. -/
theorem PeersClosed.effect (c : Instr) : P (effect c s).peers := by
  have hask (t : State) (ht : P t.peers) : P t.askSleep.peers := PeersClosed.congr ht (by simp)
  have hkeeps {c : Instr} {f : State → State} (hc : exec c s = .next (whenRunning f s)) (hf : P (f s).peers) : P (Machine.effect c s).peers :=
    effect_keeps (P := fun t => P t.peers) hask hc h hf
  cases c with
  | supplyDipReset => exact hkeeps rfl hP.empty
  | start p =>
    simp only [Machine.effect, exec, execStart]
    split
    · exact hP.empty
    · exact h
  | openingFrame o => exact hkeeps rfl (by split; { exact hP.openingCompletes h o }; { exact h })
  | notice n => exact hkeeps rfl (by split; { exact hP.noticeCompletes h n }; { exact h })
  | closeEvent => exact hkeeps rfl (by split; { exact hP.closeRound h }; { exact h })
  | errorDelimiterEnd => exact hkeeps rfl (by split; { exact hP.delimiterEnds h }; { exact h })
  | lineStuck => exact hkeeps rfl (by split; { exact hP.getsStuck h }; { exact h })
  | startBitEdge =>
    refine hkeeps rfl ?_
    split
    · split
      · exact PeersClosed.congr h (by simp)
      · exact PeersClosed.congr h (by simp)
      · split
        · exact PeersClosed.congr (hP.delimiterEnds h) (by simp)
        · exact h
      · exact h
      · exact h
    · exact h
  | _ => exact PeersClosed.congr h ((effect_sameBut _ s).peers (by simp [touched]))

end

theorem peersClosed_canonical : PeersClosed PeerState.Canonical where
  empty := .empty
  record h := h.record
  remove h := h.remove
  examine h := h.examine
  assemble h := h.assemble

/-- Settles O58: four operations write the peer table, and each keeps it canonical. -/
theorem stepKeepsPeersSafe : Obligations.StepKeepsPeersSafe := fun _ _ hs =>
  step_keeps (P := fun s => s.peers.Canonical) (fun _ _ h => h) (fun s h => PeersClosed.congr h (by simp))
    (fun c _ h => peersClosed_canonical.effect h c) hs

end Sys2Proof.Machine

end

section
/-! ## The grants of a station without a reference -/

namespace Sys2Proof.Machine

theorem GrantsCleared.congr {s t : State} (h : GrantsCleared s) (hr : t.round = s.round) (hs : t.share = s.share) : GrantsCleared t := by
  unfold GrantsCleared at h ⊢
  rwa [hr, hs]

/-- A state with no reference, no grant and no point. -/
theorem GrantsCleared.of_start {s : State} (hr : s.round.referenced = false ∧ s.round.loweringPending = false ∧ s.round.raisingPending = false
    ∧ s.round.loweringDue = false ∧ s.round.raisingDue = false ∧ s.round.owedLowering = false)
    (hs : s.share = {}) : GrantsCleared s := by
  unfold GrantsCleared
  grind

section
variable {s : State} (h : GrantsCleared s)
include h

theorem GrantsCleared.withLine (l : LineState) : GrantsCleared { s with line := l } := h

theorem GrantsCleared.frameEnded : GrantsCleared s.frameEnded := by
  unfold GrantsCleared at *
  simpa using h

theorem GrantsCleared.closedIfDue : GrantsCleared s.closedIfDue := by
  unfold GrantsCleared at *
  simpa using h

theorem GrantsCleared.closeRound : GrantsCleared s.closeRound := by
  unfold GrantsCleared at *
  simpa using h

theorem GrantsCleared.completeFrame : GrantsCleared s.completeFrame := by
  unfold GrantsCleared at *
  simpa using h

/-- LISTEN is left for MEMBER before the reference is taken (R18), so that the first reference finds a MEMBER or MUTED station. -/
theorem GrantsCleared.takeReference (o : Opening) (hl : s.round.participation ≠ .listen) : GrantsCleared (s.takeReference o) := by
  unfold GrantsCleared at *
  simp [State.owesLowering]
  grind

theorem GrantsCleared.enterMuted : GrantsCleared s.enterMuted := by
  unfold GrantsCleared at *
  simp [RoundState.dropPoints]

theorem GrantsCleared.clash : GrantsCleared s.clash := by
  have hmuted : GrantsCleared s.mutedByClash := by
    unfold State.mutedByClash
    split
    · exact h
    · exact h.enterMuted
  rw [State.clash_eq]
  exact hmuted.frameEnded.congr (by simp) (by simp)

theorem GrantsCleared.openingCompletes (o : Opening) : GrantsCleared (s.openingCompletes o) := by
  have hc := h.completeFrame
  unfold State.openingCompletes
  dsimp only
  split
  · exact hc.clash
  · split
    · exact hc.frameEnded
    · split
      next hl =>
        have hm : GrantsCleared { s.completeFrame with
            round := { s.completeFrame.round with participation := .member, joinTimer := none } } := by
          unfold GrantsCleared at hc ⊢
          simp_all
        exact (hm.takeReference o (by simp)).congr (State.settleRepeat_frame _).2.2.2.1 (State.settleRepeat_frame _).2.2.2.2.2.1
      next hl => exact (hc.takeReference o hl).congr (by simp) (by simp)

theorem GrantsCleared.noticeCompletes (n : Notice) : GrantsCleared (s.noticeCompletes n) := by
  have hc := h.completeFrame
  unfold State.noticeCompletes
  dsimp only
  split
  · exact hc.clash
  · exact GrantsCleared.frameEnded (hc.congr (by simp) (by simp))

/-- A raising is applied to a referenced MEMBER alone: its moment has come only there. -/
theorem GrantsCleared.runPoints : GrantsCleared s.runPoints := by
  unfold GrantsCleared at *
  simp only [State.runPoints_round, State.runPoints_share, State.lowered_share, State.raisesNow, ShareState.raised]
  grind

theorem GrantsCleared.computationCompletes : GrantsCleared s.computationCompletes := by
  have howed : GrantsCleared s.finishShare.owedApplied := by
    unfold GrantsCleared at *
    simp
    grind
  exact howed.runPoints.congr (by simp [State.computationCompletes_eq]) (by simp [State.computationCompletes_eq])

theorem GrantsCleared.losesReference : GrantsCleared s.losesReference := by
  unfold GrantsCleared at *
  simp [State.losesReference, RoundState.dropPoints]

/-- A command writes grants and points of a referenced MEMBER, or clears them (R13, R16, R19, R53). -/
theorem GrantsCleared.effect (c : Instr) : GrantsCleared (effect c s) := by
  have hask (t : State) (ht : GrantsCleared t) : GrantsCleared t.askSleep := ht.congr (by simp) (by simp)
  cases c with
  | supplyDipReset => exact effect_keeps hask rfl h (.of_start (by simp [State.inReset]) rfl)
  | start p =>
    simp only [Machine.effect, exec, execStart]
    split
    · exact .of_start (by simp [State.started]) rfl
    · exact h
  | mainsFail =>
    refine effect_keeps hask rfl h ?_
    split
    · unfold GrantsCleared at *
      rw [State.mainsFails_round]
      simpa using h
    · exact h
  | openingFrame o => exact effect_keeps hask rfl h (by split; { exact h.openingCompletes o }; { exact h })
  | notice n => exact effect_keeps hask rfl h (by split; { exact h.noticeCompletes n }; { exact h })
  | roundTimerExpiry =>
    refine effect_keeps hask rfl h ?_
    split
    · unfold GrantsCleared at *
      simpa using h
    · exact h
  | joinTimerExpiry =>
    refine effect_keeps hask rfl h ?_
    (repeat' split)
    · exact h
    · unfold GrantsCleared at *
      simp
      grind
    · exact h
  | lineEdgeWake =>
    refine effect_keeps hask rfl h ?_
    unfold GrantsCleared at *
    (repeat' split) <;> simpa using h
  | closeEvent => exact effect_keeps hask rfl h (by split; { exact h.closeRound }; { exact h })
  | shareComputationComplete => exact effect_keeps hask rfl h (by split; { exact h.computationCompletes }; { exact h })
  | loweringPoint =>
    refine effect_keeps hask rfl h ?_
    split
    next hp =>
      split
      next hm =>
        have hdue : GrantsCleared { s with round := { s.round with loweringDue := true } } := by
          unfold GrantsCleared at *
          grind
        exact hdue.runPoints.congr (State.raiseCarry_frame _).2.2.2.1 (State.raiseCarry_frame _).2.2.2.2.2.1
      next =>
        unfold GrantsCleared at *
        grind
    next => exact h
  | raisingPoint =>
    refine effect_keeps hask rfl h ?_
    split
    next hp =>
      split
      next hm =>
        have hdue : GrantsCleared { s with round := { s.round with raisingDue := true } } := by
          unfold GrantsCleared at *
          grind
        exact hdue.runPoints.congr (State.raiseCarry_frame _).2.2.2.1 (State.raiseCarry_frame _).2.2.2.2.2.1
      next =>
        unfold GrantsCleared at *
        grind
    next => exact h
  | mutedReportPoint =>
    refine effect_keeps hask rfl h ?_
    split
    · exact GrantsCleared.congr (s := { s with round := { s.round with reportPending := false } }) h (by simp) (by simp)
    · exact h
  | roundAgeLimit => exact effect_keeps hask rfl h (by split; { exact h.losesReference }; { exact h })
  | errorDelimiterEnd => exact effect_keeps hask rfl h (by split; { exact (h.withLine _).frameEnded }; { exact h })
  | lineStuck => exact effect_keeps hask rfl h (by split; { exact (h.withLine _).closedIfDue }; { exact h })
  | startBitEdge =>
    refine effect_keeps hask rfl h ?_
    split
    · split
      · exact h.congr (by simp) (by simp)
      · exact h.congr (by simp) (by simp)
      · split
        · exact ((h.withLine s.line.afterDelimiter).frameEnded).congr (by simp [State.delimiterEnds_eq]) (by simp [State.delimiterEnds_eq])
        · exact h
      · exact h
      · exact h
    · exact h
  | testDone =>
    refine effect_keeps hask rfl h ?_
    unfold GrantsCleared at *
    (repeat' split) <;> simpa [apply_ite ShareState.feedGrant, apply_ite ShareState.chargeGrant] using h
  | resistanceComputed =>
    refine effect_keeps hask rfl h ?_
    unfold GrantsCleared at *
    (repeat' split) <;> simpa [ShareState.releaseStage] using h
  | _ => exact h.congr ((effect_sameBut _ s).round (by simp [touched])) ((effect_sameBut _ s).share (by simp [touched]))

end

/-- Settles O56: what writes grants and points finds a referenced MEMBER, and what makes the station none clears them. -/
theorem stepKeepsGrantsCleared : Obligations.StepKeepsGrantsCleared := fun _ _ hs =>
  step_keeps (fun _ _ h => h) (fun s h => h.congr (by simp) (by simp)) (fun c _ h => h.effect c) hs

end Sys2Proof.Machine

end

section
/-! ## The line controller and its queue -/

namespace Sys2Proof.Machine

/-! ### Counts and confinement (R100 to R103) -/

/-- The line controller as it enters OFFLINE (R103). -/
def LineState.wentOffline (l : LineState) : LineState :=
  { l.clearQueue with
    confinement := .offline, driver := .recessive, driveTime := 0
    role := if l.phase = .frame ∧ l.role = .transmitter then .receiver else l.role
    failed := 0, extraWait := .none, recoveryRuns := 0, recoveryBits := 0 }

/-- The line controller with its confinement state read again from the counts (R101, R102). -/
def LineState.reread (l : LineState) : LineState :=
  if l.confinement = .offline then l
  else
    match confinementOf l.txErrors l.rxErrors with
    | .offline => l.wentOffline
    | .quiet => { l with confinement := .quiet }
    | .active => { l with confinement := .active, extraWait := if l.confinement = .quiet then .none else l.extraWait }

/-- The counts after an error taken in a role (R100). -/
def LineState.countedError (l : LineState) : Role → LineState
  | .transmitter => { l with txErrors := sat255 (l.txErrors + 8) }
  | .receiver => { l with rxErrors := sat255 (l.rxErrors + 1) }
  | .none => l

/-- The line controller as a frame completes, before the confinement state is read again (R83, R86, R87, R100). -/
def LineState.ended (l : LineState) : LineState :=
  let own := decide (l.role = .transmitter)
  { l with
    queue := if own then l.queue.tail else l.queue
    failed := if own then 0 else l.failed
    unheard := if own && decide (l.ackSampled = .recessive) then sat255 (l.unheard + 1) else l.unheard
    phase := .gap, role := .none, driver := .recessive, gapBits := 0, rxBits := []
    txErrors := if own then l.txErrors - 1 else l.txErrors
    rxErrors := if own then l.rxErrors else l.rxErrors - 1 }

section
variable (s : State)

@[simp] theorem State.enterOffline_line : s.enterOffline.line = s.line.wentOffline := by
  simp [State.enterOffline, LineState.wentOffline]

@[simp] theorem State.readConfinement_line : s.readConfinement.line = s.line.reread := by
  unfold State.readConfinement LineState.reread
  split
  · rfl
  · split <;> simp_all

@[simp] theorem State.countError_line (r : Role) : (s.countError r).line = (s.line.countedError r).reread := by
  cases r <;> exact State.readConfinement_line _

@[simp] theorem State.completeFrame_line : s.completeFrame.line = s.line.ended.reread := by
  rw [State.completeFrame, State.countValid, State.readConfinement_line]
  by_cases h : s.line.role = .transmitter <;> simp [LineState.ended, h]

/-! ### Offering (R84, R89) -/

theorem State.offer_line : s.offer.line = if s.line.phase = .idle ∧ s.mayOffer = true then (s.beginFrame .transmitter).line else s.line := by
  simp only [State.offer, apply_ite State.line]

/-- An own start bit leaves queue, counts and confinement. -/
@[simp] theorem State.offer_queue : s.offer.line.queue = s.line.queue := by
  rw [State.offer_line]
  split <;> simp

theorem State.handleExpiry_line : s.handleExpiry.line =
    if s.suppressed = false ∧ s.line.confinement ≠ .offline ∧ s.line.stuck = false then
      (State.offer (State.rearm { s with line := s.line.placeOpening s.openingContents })).line
    else s.line := by
  unfold State.handleExpiry
  (repeat' split) <;> simp_all

theorem LineState.placeOpening_queue (l : LineState) (o : Opening) : (l.placeOpening o).queue
    = if l.queue.any fun f => !Frame.isNotice f then l.queue else .opening o :: l.queue := by
  unfold LineState.placeOpening
  split <;> simp

/-! ### The reference and the snapshot (R9, R69) -/

@[simp] theorem State.snapshot_line : s.snapshot.line = s.line.withQueue (s.line.queue ++ s.countCarry.snapshotNotices) := by
  simp [State.snapshot, State.freezeClaims]

/-- The round before settled, the reference taken and the table examined (R9). -/
def State.referenceAdopted (o : Opening) : State :=
  let s1 := ({ s with line := s.line.dropOpenings } : State).settlePrevious
  State.clearSleepRequest { s1 with
    round := { s1.round with
      t0 := s1.line.frameStart
      tempo := o.tempo
      number := o.round
      adopted := true
      referenced := true
      missed := false
      timer :=
        if s1.round.participation = .member then some (s1.line.frameStart + period o.tempo + s1.skew) else none }
    peers := s1.peers.examine o.round }

/-- The station at a reference up to its snapshot: the converter and the test unit have followed (R9). -/
def State.referenceTaken (o : Opening) : State := (s.referenceAdopted o).realign.retarget.raiseCarry

/-- The snapshot of a MEMBER (R10). -/
def State.snapshotIfMember : State := if s.round.participation = .member then s.snapshot else s

/-- The points of the round that a reference begins (R9). -/
def State.pointsPending : State :=
  { s with round := { s.round with
      closePending := true, loweringPending := true, raisingPending := true, reportPending := true } }

theorem State.takeReference_eq (o : Opening) : s.takeReference o = (s.referenceTaken o).snapshotIfMember.pointsPending := by
  unfold State.takeReference State.pointsPending State.snapshotIfMember State.referenceTaken State.referenceAdopted
  with_reducible rfl

/-- What the opening frame leaves in the queue: the station's own is removed, and a pending close event removes the notices (R8, R12, R14). -/
def State.lineAtReference : LineState :=
  if s.round.closePending then s.line.dropOpenings.dropNotices else s.line.dropOpenings

theorem State.takeReference_line (o : Opening) : (s.takeReference o).line =
    if s.round.participation = .member then
      s.lineAtReference.withQueue (s.lineAtReference.queue ++ (s.referenceTaken o).countCarry.snapshotNotices)
    else s.lineAtReference := by
  have hline : (s.referenceTaken o).line = s.lineAtReference := by simp [State.referenceTaken, State.referenceAdopted, State.lineAtReference]
  have hmember : (s.referenceTaken o).round.participation = s.round.participation := by simp [State.referenceTaken, State.referenceAdopted, RoundState.dropPoints]
  simp only [State.takeReference_eq, State.snapshotIfMember, State.pointsPending, hmember]
  split <;> simp [hline]

end

/-! ### The line controller in the other commands -/

section
variable (s : State)

theorem State.closeRound_queue : s.closeRound.line.queue = s.line.queue.filter fun f => !Frame.isNotice f := by simp [LineState.dropNotices]

theorem State.frameEnded_line : s.frameEnded.line
    = if s.timerExpired then s.closedIfDue.handleExpiry.line else s.closedIfDue.line := by
  rw [State.frameEnded_eq, apply_ite State.line]

@[simp] theorem LineState.stuckLine_queue (l : LineState) : l.stuckLine.queue = [] := rfl

/-- The line controller of a part that wakes (R72, R83, R105). -/
def LineState.woken (l : LineState) : LineState :=
  { l with phase := .integrating, role := .none, driver := .recessive, driveTime := 0, recessiveRun := 0, gapBits := 0, bitPos := none
           rxBits := [] }

theorem State.wakeUp_line_eq : s.wakeUp.line = if s.supply.asleep then s.line.woken else s.line := by
  unfold State.wakeUp
  split <;> simp [LineState.woken]

@[simp] theorem State.mainsFails_line : s.mainsFails.line = s.wakeUp.line := by simp [State.mainsFails]

@[simp] theorem State.mainsReturns_line : s.mainsReturns.line = s.wakeUp.line := by simp [State.mainsReturns]

@[simp] theorem State.demandTaken_line : s.demandTaken.line = if s.acting then s.wakeUp.line else s.line := by
  unfold State.demandTaken
  split <;> simp

@[simp] theorem State.fallAsleep_line : s.fallAsleep.line = { s.line with driver := .recessive, driveTime := 0, bitPos := none } := by
  simp [State.fallAsleep]

@[simp] theorem State.oscillatorStable_line : s.oscillatorStable.line = { s.line with
    phase := .integrating, role := .none, bitPos := some {}, seen := .recessive, recessiveRun := 0, rxBits := [] } := by
  unfold State.oscillatorStable
  dsimp only
  split <;> simp

@[simp] theorem State.edgeBegins_line : s.edgeBegins.line = { s.line with
    phase := .frame, role := if s.mayOffer then .transmitter else .receiver
    driver := if s.mayOffer then .dominant else .recessive, bitPos := some {}, seen := .dominant
    gapBits := 0, frameStart := s.clock, rxBits := [], extraWait := .none } := by
  cases h : s.mayOffer <;> simp [State.edgeBegins, h]

/-- The line controller as it takes an error, its counts changed and the confinement state read (R96, R100, R101). -/
def LineState.errored (l : LineState) : LineState :=
  (LineState.countedError { l with phase := .error, driver := .recessive, rxBits := [], gapBits := 0 } l.role).reread

/-- The station as it takes an error, before its flag is chosen. -/
def State.errorCounted : State :=
  State.countError { s with line := { s.line with phase := .error, driver := .recessive, rxBits := [], gapBits := 0 } } s.line.role

@[simp] theorem State.errorCounted_line : s.errorCounted.line = s.line.errored := State.countError_line _ _

/-- The error in hand and the failed attempt that a transmitter in QUIET counts (R97, R102). -/
theorem State.takeError_line (k : ErrorKind) : (s.takeError k).line = { s.line.errored with
    error := some { kind := k, role := s.line.role, flag := s.errorCounted.flagChosen, progress := .flag 0 .recessive }
    failed := if s.line.role = .transmitter ∧ s.line.errored.confinement = .quiet then min 2 (s.line.errored.failed + 1)
      else s.line.errored.failed
    extraWait := if s.line.role = .transmitter ∧ s.line.errored.confinement = .quiet then .owed else s.line.errored.extraWait } := by
  have h : s.takeError k = { s.errorCounted with line := { s.errorCounted.line with
      error := some { kind := k, role := s.line.role, flag := s.errorCounted.flagChosen, progress := .flag 0 .recessive }
      failed := if decide (s.line.role = .transmitter) && decide (s.errorCounted.line.confinement = .quiet) then
          min 2 (s.errorCounted.line.failed + 1) else s.errorCounted.line.failed
      extraWait := if decide (s.line.role = .transmitter) && decide (s.errorCounted.line.confinement = .quiet) then .owed
        else s.errorCounted.line.extraWait } } := rfl
  rw [h]
  simp

/-! ### Samples and cycles -/

@[simp] theorem LineState.phaseSample_frame (l : LineState) (b : Level) :
    (l.phaseSample b).phase = l.phase ∧ (l.phaseSample b).role = l.role ∧ (l.phaseSample b).driver = l.driver
      ∧ (l.phaseSample b).queue = l.queue ∧ (l.phaseSample b).txErrors = l.txErrors ∧ (l.phaseSample b).rxErrors = l.rxErrors
      ∧ (l.phaseSample b).confinement = l.confinement ∧ (l.phaseSample b).failed = l.failed ∧ (l.phaseSample b).extraWait = l.extraWait
      ∧ (l.phaseSample b).driveTime = l.driveTime ∧ (l.phaseSample b).stuck = l.stuck ∧ (l.phaseSample b).unheard = l.unheard
      ∧ (l.phaseSample b).unsent = l.unsent ∧ (l.phaseSample b).dominantRun = l.dominantRun
      ∧ (l.phaseSample b).clearingRun = l.clearingRun ∧ (l.phaseSample b).recoveryBits = l.recoveryBits
      ∧ (l.phaseSample b).recoveryRuns = l.recoveryRuns ∧ (l.phaseSample b).frameStart = l.frameStart
      ∧ (l.phaseSample b).seen = l.seen ∧ (l.phaseSample b).bitPos = l.bitPos := by
  unfold LineState.phaseSample
  (repeat' split) <;> simp_all

@[simp] theorem LineState.sample_frame (l : LineState) (b : Level) :
    (l.sample b).phase = l.phase ∧ (l.sample b).role = l.role ∧ (l.sample b).driver = l.driver ∧ (l.sample b).queue = l.queue
      ∧ (l.sample b).txErrors = l.txErrors ∧ (l.sample b).rxErrors = l.rxErrors ∧ (l.sample b).confinement = l.confinement
      ∧ (l.sample b).failed = l.failed ∧ (l.sample b).extraWait = l.extraWait ∧ (l.sample b).driveTime = l.driveTime
      ∧ (l.sample b).stuck = l.stuck ∧ (l.sample b).unheard = l.unheard ∧ (l.sample b).unsent = l.unsent
      ∧ (l.sample b).frameStart = l.frameStart ∧ (l.sample b).seen = l.seen ∧ (l.sample b).bitPos = l.bitPos := by
  unfold LineState.sample LineState.recoverySample LineState.stuckSample
  cases b <;> dsimp only <;> (repeat' split) <;> simp

/-- A cycle leaves phase, role, queue, error counts and confinement of the line controller. -/
@[simp] theorem State.quantumEnds_line (b : BitPos) :
    (s.quantumEnds b).line.phase = s.line.phase ∧ (s.quantumEnds b).line.role = s.line.role
      ∧ (s.quantumEnds b).line.queue = s.line.queue ∧ (s.quantumEnds b).line.txErrors = s.line.txErrors
      ∧ (s.quantumEnds b).line.rxErrors = s.line.rxErrors ∧ (s.quantumEnds b).line.confinement = s.line.confinement
      ∧ (s.quantumEnds b).line.failed = s.line.failed ∧ (s.quantumEnds b).line.extraWait = s.line.extraWait
      ∧ (s.quantumEnds b).line.driveTime = s.line.driveTime ∧ (s.quantumEnds b).line.stuck = s.line.stuck
      ∧ (s.quantumEnds b).line.unheard = s.line.unheard ∧ (s.quantumEnds b).line.unsent = s.line.unsent := by
  unfold State.quantumEnds LineState.edgeIntegrating
  dsimp only
  (repeat' split) <;> simp

@[simp] theorem State.tick_line :
    s.tick.line.phase = s.line.phase ∧ s.tick.line.role = s.line.role ∧ s.tick.line.queue = s.line.queue
      ∧ s.tick.line.txErrors = s.line.txErrors ∧ s.tick.line.rxErrors = s.line.rxErrors
      ∧ s.tick.line.confinement = s.line.confinement ∧ s.tick.line.failed = s.line.failed
      ∧ s.tick.line.extraWait = s.line.extraWait ∧ s.tick.line.stuck = s.line.stuck
      ∧ s.tick.line.unheard = s.line.unheard ∧ s.tick.line.unsent = s.line.unsent := by
  unfold State.tick State.lineCycle LineState.countDrive
  dsimp only
  (repeat' split) <;> simp

end

/-! ### The shape of the queue (R88) -/

/-- No frame is both an opening frame and a notice. -/
theorem filter_of_none (q : List Frame) : (q.filter fun _ => false) = [] := List.filter_eq_nil_iff.2 (by simp)

@[simp] theorem Frame.isNotice_opening (o : Opening) : Frame.isNotice (.opening o) = false := rfl
@[simp] theorem Frame.isNotice_notice (n : Notice) : Frame.isNotice (.notice n) = true := rfl

/-- A queue of shape: at most two notices, behind at most one opening frame. -/
theorem queueShape_iff (q : List Frame) : QueueShape q ↔
    ∃ ns : List Frame, (q = ns ∨ ∃ o, q = .opening o :: ns) ∧ ns.length ≤ 2 ∧ ∀ f ∈ ns, Frame.isNotice f = true := by
  constructor
  · rintro ⟨hone, htwo, hq⟩
    refine ⟨q.filter Frame.isNotice, ?_, htwo, fun f hf => (List.mem_filter.1 hf).2⟩
    match hos : q.filter fun f => !Frame.isNotice f with
    | [] => exact .inl (by rw [hos] at hq; exact hq)
    | [f] =>
      have hf : f ∈ q.filter fun f => !Frame.isNotice f := by simp [hos]
      cases f with
      | opening o => exact .inr ⟨o, by rw [hos] at hq; exact hq⟩
      | notice n => simp at hf
    | _ :: _ :: _ => simp [hos] at hone
  · rintro ⟨ns, hq, hlen, hns⟩
    have hnotices : ns.filter Frame.isNotice = ns := List.filter_eq_self.2 hns
    have hopenings : (ns.filter fun f => !Frame.isNotice f) = [] := List.filter_eq_nil_iff.2 (by simpa using hns)
    obtain rfl | ⟨o, rfl⟩ := hq
    · refine ⟨?_, ?_, ?_⟩ <;> simp [hnotices, hopenings, hlen]
    · refine ⟨?_, ?_, ?_⟩ <;> simp [hnotices, hopenings, hlen]

theorem QueueShape.nil : QueueShape [] := by simp [QueueShape]

section
variable {q : List Frame} (h : QueueShape q)
include h

theorem QueueShape.tail : QueueShape q.tail := by
  rw [queueShape_iff] at *
  obtain ⟨ns, rfl | ⟨o, rfl⟩, hlen, hns⟩ := h
  · exact ⟨q.tail, .inl rfl, by simp; omega, fun f hf => hns f (List.mem_of_mem_tail hf)⟩
  · exact ⟨ns, .inl rfl, hlen, hns⟩

theorem QueueShape.openings : QueueShape (q.filter fun f => !Frame.isNotice f) := by
  obtain ⟨hone, -, -⟩ := h
  refine ⟨?_, ?_, ?_⟩ <;> simp [List.filter_filter, filter_of_none, hone]

theorem QueueShape.notices : QueueShape (q.filter Frame.isNotice) := by
  obtain ⟨-, htwo, -⟩ := h
  refine ⟨?_, ?_, ?_⟩ <;> simp [List.filter_filter, filter_of_none, htwo]

/-- An opening frame goes to the head of a queue that holds none (R6). -/
theorem QueueShape.place (o : Opening) (hnone : (q.any fun f => !Frame.isNotice f) = false) : QueueShape (.opening o :: q) := by
  rw [queueShape_iff] at *
  obtain ⟨ns, rfl | ⟨p, rfl⟩, hlen, hns⟩ := h
  · exact ⟨q, .inr ⟨o, rfl⟩, hlen, hns⟩
  · simp at hnone

end

/-- The notices of a snapshot on an empty queue (R69). -/
theorem queueShape_snapshot (s : State) : QueueShape s.snapshotNotices := by
  rw [queueShape_iff]
  refine ⟨_, .inl rfl, ?_, ?_⟩
  · cases h : s.chargeNotice <;> simp [State.snapshotNotices, h]
  · cases h : s.chargeNotice <;> simp [State.snapshotNotices, h]

/-! ### What the commands keep -/

/-- A queue that QueueSafe allows beside a close event that is pending or not, in a participation state. -/
def QueueFits (q : List Frame) (closePending : Bool) (p : Participation) : Prop :=
  QueueShape q ∧ (closePending = false → q.filter Frame.isNotice = []) ∧ (p ≠ .member → q = [])

theorem queueSafe_iff (s : State) : QueueSafe s ↔ QueueFits s.line.queue s.round.closePending s.round.participation := Iff.rfl

theorem QueueFits.nil (b : Bool) (p : Participation) : QueueFits [] b p := ⟨.nil, fun _ => rfl, fun _ => rfl⟩

section
variable {q : List Frame} {b : Bool} {p : Participation} (h : QueueFits q b p)
include h

theorem QueueFits.tail : QueueFits q.tail b p := by
  obtain ⟨hshape, hclose, hmember⟩ := h
  refine ⟨hshape.tail, fun hb => ?_, fun hp => by rw [hmember hp]; rfl⟩
  have hq := hclose hb
  rw [List.filter_eq_nil_iff] at hq ⊢
  exact fun f hf => hq f (List.mem_of_mem_tail hf)

/-- A close event leaves no notice (R12). -/
theorem QueueFits.openings (b' : Bool) : QueueFits (q.filter fun f => !Frame.isNotice f) b' p := by
  obtain ⟨hshape, -, hmember⟩ := h
  exact ⟨hshape.openings, fun _ => by simp [List.filter_filter], fun hp => by rw [hmember hp]; rfl⟩

theorem QueueFits.notices : QueueFits (q.filter Frame.isNotice) b p := by
  obtain ⟨hshape, hclose, hmember⟩ := h
  exact ⟨hshape.notices, fun hb => by rw [List.filter_filter]; simpa using hclose hb, fun hp => by rw [hmember hp]; rfl⟩

end

theorem LineState.reread_queue (l : LineState) : l.reread.queue = l.queue ∨ l.reread.queue = [] := by
  unfold LineState.reread
  (repeat' split) <;> simp [LineState.wentOffline]

@[simp] theorem RoundState.dropPoints_frame (r : RoundState) : r.dropPoints.closePending = r.closePending
    ∧ r.dropPoints.participation = r.participation ∧ r.dropPoints.referenced = r.referenced := ⟨rfl, rfl, rfl⟩

@[simp] theorem State.mainsFails_round_frame (s : State) : s.mainsFails.round.closePending = s.round.closePending
    ∧ s.mainsFails.round.participation = s.round.participation ∧ s.mainsFails.round.referenced = s.round.referenced := by
  rw [State.mainsFails_round]
  exact ⟨rfl, rfl, rfl⟩

theorem LineState.errored_queue (l : LineState) : l.errored.queue = l.queue ∨ l.errored.queue = [] := by
  have hcounted (m : LineState) (r : Role) : (m.countedError r).queue = m.queue := by cases r <;> rfl
  exact hcounted { l with phase := .error, driver := .recessive, rxBits := [], gapBits := 0 } l.role ▸ LineState.reread_queue _

@[simp] theorem State.wakeUp_queue (s : State) : s.wakeUp.line.queue = s.line.queue := by
  rw [State.wakeUp_line_eq]
  split <;> rfl

section
variable {s : State} (h : QueueSafe s)
include h

theorem QueueSafe.congr {t : State} (hq : t.line.queue = s.line.queue) (hr : t.round = s.round) : QueueSafe t := by
  rw [queueSafe_iff] at *
  rwa [hq, hr]

theorem QueueSafe.closeRound : QueueSafe s.closeRound := by
  rw [queueSafe_iff] at *
  simpa [LineState.dropNotices] using h.openings false

theorem QueueSafe.closedIfDue : QueueSafe s.closedIfDue := by
  unfold State.closedIfDue
  split
  · exact h.closeRound
  · exact h

/-- The round timer is a MEMBER's (R6), whose queue takes its opening frame at the head. -/
theorem QueueSafe.handleExpiry (hm : s.round.participation = .member) : QueueSafe s.handleExpiry := by
  obtain ⟨hshape, hclose, -⟩ := h
  have hqueue : s.handleExpiry.line.queue = s.line.queue ∨
      ((s.line.queue.any fun f => !Frame.isNotice f) = false ∧ s.handleExpiry.line.queue = .opening s.openingContents :: s.line.queue) := by
    rw [State.handleExpiry_line]
    split
    · rw [State.offer_queue, (State.rearm_frame _).2.2.2.2.2.2.1, LineState.placeOpening_queue]
      split
      · exact .inl rfl
      next hnone => exact .inr ⟨by simpa using hnone, rfl⟩
    · exact .inl rfl
  refine ⟨?_, ?_, fun hp => absurd (by simpa using hm) hp⟩
  · obtain hq | ⟨hnone, hq⟩ := hqueue <;> rw [hq]
    · exact hshape
    · exact hshape.place _ hnone
  · obtain hq | ⟨-, hq⟩ := hqueue <;> rw [hq] <;> simpa using hclose

theorem QueueSafe.frameEnded : QueueSafe s.frameEnded := by
  rw [State.frameEnded_eq]
  split
  next ht => exact h.closedIfDue.handleExpiry (by simp_all [State.timerExpired])
  next => exact h.closedIfDue

theorem QueueSafe.completeFrame : QueueSafe s.completeFrame := by
  rw [queueSafe_iff] at *
  have hended : QueueFits s.line.ended.queue s.round.closePending s.round.participation := by
    unfold LineState.ended
    dsimp only
    split
    · exact h.tail
    · exact h
  rw [State.completeFrame_line, State.completeFrame_round]
  obtain hq | hq := s.line.ended.reread_queue <;> rw [hq]
  · exact hended
  · exact .nil ..

/-- The snapshot finds an empty queue: the opening frame has removed the station's own, the close event the notices (R8, R12, R14). -/
theorem QueueSafe.lineAtReference_queue : s.lineAtReference.queue = [] := by
  obtain ⟨-, hclose, -⟩ := h
  unfold State.lineAtReference
  split
  · simp [LineState.dropNotices, LineState.dropOpenings, List.filter_filter]
  next hp => exact hclose (by simpa using hp)

theorem QueueSafe.takeReference (o : Opening) : QueueSafe (s.takeReference o) := by
  rw [queueSafe_iff, State.takeReference_line, State.takeReference_round]
  split
  next hm =>
    rw [LineState.withQueue_queue, h.lineAtReference_queue]
    exact ⟨queueShape_snapshot _, fun hb => by simp at hb, fun hp => absurd hm hp⟩
  next => rw [h.lineAtReference_queue]; exact .nil ..

theorem QueueSafe.clash : QueueSafe s.clash := by
  have hmuted : QueueSafe s.mutedByClash := by
    unfold State.mutedByClash
    split
    · exact h
    · rw [queueSafe_iff, State.enterMuted_line]
      exact .nil ..
  rw [State.clash_eq]
  exact hmuted.frameEnded.congr (by simp) (by simp)

theorem QueueSafe.member (r : RoundState) (hr : r = { s.round with participation := .member, joinTimer := r.joinTimer, timer := r.timer }) :
    QueueSafe { s with round := r } := by
  obtain ⟨hshape, hclose, -⟩ := h
  refine ⟨hshape, ?_, ?_⟩ <;> rw [hr]
  · exact hclose
  · exact fun hp => absurd rfl hp

theorem QueueSafe.openingCompletes (o : Opening) : QueueSafe (s.openingCompletes o) := by
  have hc := h.completeFrame
  unfold State.openingCompletes
  dsimp only
  split
  · exact hc.clash
  · split
    · exact hc.frameEnded
    · split
      · exact ((hc.member { s.completeFrame.round with participation := .member, joinTimer := none } rfl).takeReference o).congr
          (congrArg LineState.queue (State.settleRepeat_frame _).2.2.2.2.2.2.2.1) (State.settleRepeat_frame _).2.2.2.1
      · exact (hc.takeReference o).congr (by simp) (by simp)

theorem QueueSafe.noticeCompletes (n : Notice) : QueueSafe (s.noticeCompletes n) := by
  have hc := h.completeFrame
  unfold State.noticeCompletes
  dsimp only
  split
  · exact hc.clash
  · exact QueueSafe.frameEnded (hc.congr (by simp) (by simp))

theorem QueueSafe.withLine (l : LineState) (hl : l.queue = s.line.queue ∨ l.queue = s.line.queue.tail ∨ l.queue = []) :
    QueueSafe { s with line := l } := by
  rw [queueSafe_iff] at *
  obtain hq | hq | hq := hl <;> rw [hq]
  · exact h
  · exact h.tail
  · exact .nil ..

theorem QueueSafe.afterDelimiter : QueueSafe { s with line := s.line.afterDelimiter } := by
  refine h.withLine s.line.afterDelimiter ?_
  unfold LineState.afterDelimiter
  dsimp only
  split <;> simp

theorem QueueSafe.delimiterEnds : QueueSafe s.delimiterEnds := h.afterDelimiter.frameEnded

/-- A queue that a command leaves as it is or clears, the rounds' marks and the participation state standing. -/
theorem QueueSafe.of_sameOrNil {t : State} (hq : t.line.queue = s.line.queue ∨ t.line.queue = [])
    (hc : t.round.closePending = s.round.closePending) (hp : t.round.participation = s.round.participation) : QueueSafe t := by
  rw [queueSafe_iff] at *
  rw [hc, hp]
  obtain hq | hq := hq <;> rw [hq]
  · exact h
  · exact .nil ..

/-- What a command does to the queue: it completes its head, clears it, removes what the round no longer sends, or queues a snapshot's
notices or a MEMBER's opening frame (R88). -/
theorem QueueSafe.effect (c : Instr) : QueueSafe (effect c s) := by
  have hask (t : State) (ht : QueueSafe t) : QueueSafe t.askSleep := ht.congr (by simp) (by simp)
  cases c with
  | supplyDipReset => exact effect_keeps hask rfl h ((queueSafe_iff _).2 (.nil ..))
  | start p =>
    simp only [Machine.effect, exec, execStart]
    split
    · exact (queueSafe_iff _).2 (.nil ..)
    · exact h
  | openingFrame o => exact effect_keeps hask rfl h (by split; { exact h.openingCompletes o }; { exact h })
  | notice n => exact effect_keeps hask rfl h (by split; { exact h.noticeCompletes n }; { exact h })
  | roundTimerExpiry =>
    refine effect_keeps hask rfl h ?_
    split
    next ht => exact h.handleExpiry (by simp_all [State.timerExpired])
    next => exact h
  | joinTimerExpiry =>
    refine effect_keeps hask rfl h ?_
    (repeat' split)
    · exact h
    · exact (h.member s.joinExpires.round (by simp)).congr (by simp [State.joinExpires]) rfl
    · exact h
  | closeEvent => exact effect_keeps hask rfl h (by split; { exact h.closeRound }; { exact h })
  | errorDelimiterEnd => exact effect_keeps hask rfl h (by split; { exact h.delimiterEnds }; { exact h })
  | lineStuck =>
    refine effect_keeps hask rfl h ?_
    split
    · exact (h.withLine s.line.stuckLine (.inr (.inr rfl))).closedIfDue
    · exact h
  | startBitEdge =>
    refine effect_keeps hask rfl h ?_
    split
    · split
      · exact h.congr (by simp) (by simp)
      · exact h.congr (by simp) (by simp)
      · split
        · exact h.delimiterEnds.congr (by simp) (by simp)
        · exact h
      · exact h
      · exact h
    · exact h
  | frameError =>
    refine effect_keeps hask rfl h ?_
    split
    · exact h
    · refine h.of_sameOrNil ?_ (by simp) (by simp)
      rw [State.takeError_line]
      exact s.line.errored_queue
  | dominantTimeout =>
    refine effect_keeps hask rfl h ?_
    split
    · refine h.of_sameOrNil ?_ (by simp) (by simp)
      rw [State.readConfinement_line]
      exact LineState.reread_queue _
    · exact h
  | fastOscillatorStable | mainsReturn | roundTimerLead | demandLevelTaken | readySeen | readyLost | enterSleep | lineIdle
  | loseArbitration | extraWaitExpiry | lineStuckClear | returnFromOffline =>
    refine h.of_sameOrNil (.inl (effect_proj (·.line.queue) (by simp) rfl ?_))
      (congrArg RoundState.closePending ((effect_sameBut _ s).round (by simp [touched])))
      (congrArg RoundState.participation ((effect_sameBut _ s).round (by simp [touched])))
    (repeat' split) <;> simp [State.becomesIdle, apply_ite State.line, apply_ite LineState.queue]
  | mainsFail | lineEdgeWake =>
    refine h.of_sameOrNil (.inl ?_) ?_ ?_
    · refine effect_proj (·.line.queue) (by simp) rfl ?_
      (repeat' split) <;> simp
    · refine effect_proj (·.round.closePending) (by simp) rfl ?_
      (repeat' split) <;> simp
    · refine effect_proj (·.round.participation) (by simp) rfl ?_
      (repeat' split) <;> simp
  | shareComputationComplete | loweringPoint | raisingPoint | mutedReportPoint | roundAgeLimit =>
    refine h.of_sameOrNil (.inl (congrArg LineState.queue ((effect_sameBut _ s).line (by simp [touched])))) ?_ ?_
    · refine effect_proj (·.round.closePending) (by simp) rfl ?_
      (repeat' split) <;> simp [State.computationCompletes_eq, State.losesReference]
    · refine effect_proj (·.round.participation) (by simp) rfl ?_
      (repeat' split) <;> simp [State.computationCompletes_eq, State.losesReference]
  | _ => exact h.congr (congrArg LineState.queue ((effect_sameBut _ s).line (by simp [touched]))) ((effect_sameBut _ s).round (by simp [touched]))

end

/-- Settles O57: what enters the queue does so at a snapshot, which finds it empty, or as a MEMBER's opening frame at its head. -/
theorem stepKeepsQueueSafe : Obligations.StepKeepsQueueSafe := fun _ _ hs =>
  step_keeps (fun _ _ h => h) (fun s h => h.congr (by simp) (by simp)) (fun c _ h => h.effect c) hs

end Sys2Proof.Machine

end

section
/-! ## The driver and the confinement state -/

namespace Sys2Proof.Machine

/-- The supply controller's states other than the sleep request and its frame, of a command that does not touch it. -/
theorem SameBut.supply_fields {bs : List Block} {s t : State} (h : SameBut bs s t) (hb : .supply ∉ bs) :
    t.supply.power = s.supply.power ∧ t.supply.strapWord = s.supply.strapWord ∧ t.supply.mains = s.supply.mains
      ∧ t.supply.oscillator = s.supply.oscillator ∧ t.supply.asleep = s.supply.asleep := by
  have hbare := h.supply hb
  simp only [SupplyState.bare, SupplyState.mk.injEq] at hbare
  grind

/-! ### What changes of the queue leave of the line controller -/

/-- Two line controllers that differ in no state of the line's driver, confinement or guards. -/
structure LineState.SameDrive (l m : LineState) : Prop where
  driver : m.driver = l.driver
  driveTime : m.driveTime = l.driveTime
  confinement : m.confinement = l.confinement
  stuck : m.stuck = l.stuck
  txErrors : m.txErrors = l.txErrors
  rxErrors : m.rxErrors = l.rxErrors

theorem LineState.SameDrive.trans {l m n : LineState} (h : l.SameDrive m) (h' : m.SameDrive n) : l.SameDrive n := by
  obtain ⟨⟩ := h
  obtain ⟨⟩ := h'
  constructor <;> simp_all

section
variable (l : LineState)

theorem LineState.SameDrive.refl : l.SameDrive l := ⟨rfl, rfl, rfl, rfl, rfl, rfl⟩

theorem LineState.withQueue_sameDrive (q : List Frame) : l.SameDrive (l.withQueue q) := ⟨rfl, rfl, rfl, rfl, rfl, rfl⟩

theorem LineState.dropTo_sameDrive (q : List Frame) : l.SameDrive (l.dropTo q) := ⟨rfl, rfl, rfl, rfl, rfl, rfl⟩

theorem LineState.placeOpening_sameDrive (o : Opening) : l.SameDrive (l.placeOpening o) := by
  unfold LineState.placeOpening
  split
  · exact .refl l
  · exact l.withQueue_sameDrive _

/-- The end of a delimiter releases the driver; its dominant drive time stays. -/
theorem LineState.afterDelimiter_sameDrive : LineState.SameDrive { l with driver := .recessive } l.afterDelimiter := by
  unfold LineState.afterDelimiter
  dsimp only
  split <;> exact ⟨rfl, rfl, rfl, rfl, rfl, rfl⟩

theorem LineState.ended_drive : l.ended.driver = .recessive ∧ l.ended.driveTime = l.driveTime ∧ l.ended.confinement = l.confinement
    ∧ l.ended.stuck = l.stuck := ⟨rfl, rfl, rfl, rfl⟩

end

theorem State.lineAtReference_sameDrive (s : State) : s.line.SameDrive s.lineAtReference := by
  have hopenings : s.line.SameDrive s.line.dropOpenings := s.line.withQueue_sameDrive _
  unfold State.lineAtReference
  split
  · exact hopenings.trans (LineState.dropTo_sameDrive _ _)
  · exact hopenings

/-- What bars the driver: OFFLINE, LISTEN, the line-stuck flag, an oscillator that is not STABLE (R72, R73). -/
def DriverBarred (l : LineState) (p : Participation) (o : Oscillator) : Prop :=
  l.confinement = .offline ∨ p = .listen ∨ l.stuck = true ∨ o ≠ .stable

/-- A line controller whose driver is recessive with no dominant drive time where it is barred (R73, R105). -/
def DriverFits (l : LineState) (p : Participation) (o : Oscillator) : Prop :=
  DriverBarred l p o → l.driver = .recessive ∧ l.driveTime = 0

/-- A line controller whose confinement state is the one its counts read as, unless it is OFFLINE (R101). -/
def LineState.Agrees (l : LineState) : Prop :=
  l.confinement ≠ .offline → l.confinement = confinementOf l.txErrors l.rxErrors

/-- Driver and confinement state as they are to stand. -/
def LineFits (l : LineState) (p : Participation) (o : Oscillator) : Prop :=
  DriverFits l p o ∧ l.Agrees

def LineSafe (s : State) : Prop := DriverSafe s ∧ ConfinementAgrees s

theorem lineSafe_iff (s : State) : LineSafe s ↔ LineFits s.line s.round.participation s.supply.oscillator := by
  have hdriver : DriverSafe s ↔ DriverFits s.line s.round.participation s.supply.oscillator := by
    unfold DriverSafe DriverFits DriverBarred State.mayDrive
    grind
  exact and_congr hdriver Iff.rfl

/-! ### The line controller alone -/

section
variable {l m : LineState} {p p' : Participation} {o o' : Oscillator}

/-- The driver released or left as it is, in a station that is barred only where it was barred. -/
theorem DriverFits.released (h : DriverFits l p o) (hbar : DriverBarred m p' o' → DriverBarred l p o)
    (hdriver : m.driver = .recessive ∨ m.driver = l.driver) (htime : m.driveTime = 0 ∨ m.driveTime = l.driveTime) : DriverFits m p' o' := by
  intro hb
  obtain ⟨hd, ht⟩ := h (hbar hb)
  exact ⟨hdriver.elim id (·.trans hd), htime.elim id (·.trans ht)⟩

theorem DriverFits.of_recessive (hd : m.driver = .recessive) (ht : m.driveTime = 0) : DriverFits m p o := fun _ => ⟨hd, ht⟩

theorem LineFits.sameDrive (h : LineFits l p o) (hp : p' = .listen → p = .listen) (ho : o = .stable → o' = .stable)
    (hlm : l.SameDrive m) : LineFits m p' o' := by
  obtain ⟨hdrive, hagrees⟩ := h
  obtain ⟨hdriver, htime, hconf, hstuck, htx, hrx⟩ := hlm
  refine ⟨hdrive.released ?_ (.inr hdriver) (.inr htime), ?_⟩
  · unfold DriverBarred
    rw [hconf, hstuck]
    grind
  · unfold LineState.Agrees
    rwa [hconf, htx, hrx]

/-- The driver may be released. -/
theorem LineFits.release (h : LineFits l p o) : LineFits { l with driver := .recessive } p o :=
  ⟨h.1.released id (.inl rfl) (.inr rfl), h.2⟩

/-- The confinement state read again from the counts agrees with them, and entry into OFFLINE releases the driver (R101, R103). -/
theorem DriverFits.reread (h : DriverFits l p o) : LineFits l.reread p o := by
  unfold LineState.reread
  split
  next hoff => exact ⟨h, fun hne => absurd hoff hne⟩
  next hon =>
    split
    · exact ⟨.of_recessive rfl rfl, fun hne => absurd rfl hne⟩
    next hq =>
      refine ⟨h.released ?_ (.inr rfl) (.inr rfl), fun _ => hq.symm⟩
      unfold DriverBarred
      exact fun hb => .inr (hb.resolve_left (by simp))
    next ha =>
      refine ⟨h.released ?_ (.inr rfl) (.inr rfl), fun _ => ha.symm⟩
      unfold DriverBarred
      exact fun hb => .inr (hb.resolve_left (by simp))

theorem LineFits.wentOffline : LineFits l.wentOffline p o := ⟨.of_recessive rfl rfl, fun hne => absurd rfl hne⟩

/-- A dominant start bit, where nothing bars the driver. -/
theorem LineFits.driven (h : LineFits l p o) (hfree : ¬ DriverBarred l p o) (hconf : m.confinement = l.confinement) (hstuck : m.stuck = l.stuck)
    (htx : m.txErrors = l.txErrors) (hrx : m.rxErrors = l.rxErrors) : LineFits m p o := by
  refine ⟨fun hb => absurd ?_ hfree, ?_⟩
  · unfold DriverBarred at *
    rwa [← hconf, ← hstuck]
  · unfold LineState.Agrees
    rw [hconf, htx, hrx]
    exact h.2

end

/-- A head frame that may be offered finds nothing that bars the driver (R73, R89). -/
theorem State.not_barred_of_mayOffer {s : State} (h : s.mayOffer = true) :
    ¬ DriverBarred s.line s.round.participation s.supply.oscillator := by
  obtain ⟨hosc, hmember, honline, hclear, -⟩ := State.mayOffer_head h
  simp [DriverBarred, hosc, hmember, honline, hclear]

theorem LineState.edgeIntegrating_frame (l : LineState) (e : Bool) : (l.edgeIntegrating e).driver = l.driver
    ∧ (l.edgeIntegrating e).confinement = l.confinement ∧ (l.edgeIntegrating e).stuck = l.stuck := by
  unfold LineState.edgeIntegrating
  split <;> simp

/-- The bit position with the resynchronisation that the quantum in progress makes (R76). -/
def State.resyncedBit (s : State) (b : BitPos) : BitPos := if s.resyncs b then b.resync else b

/-- The bit position past its sample: a resynchronisation counts to the next sample alone (R76). -/
def BitPos.afterSample (b : BitPos) : BitPos := if b.samples then { b with resynced := false } else b

/-- The line controller with what the quantum shows it: the level for edges, and the sample where it is taken (R74, R75). -/
def State.sampledLine (s : State) (b : BitPos) : LineState :=
  let l := { s.line.edgeIntegrating s.edgeSeen with seen := s.lineLevel }
  if (s.resyncedBit b).samples then l.sample s.lineLevel else l

/-- The state at the end of a quantum, before the driver takes the level of a bit that begins. -/
def State.quantumPassed (s : State) (b : BitPos) : State :=
  { s with
    pins := { s.pins with linePeers := s.pins.linePeers.tail, driverFault := s.pins.driverFault.tail }
    line := { s.sampledLine b with bitPos := some (s.resyncedBit b).afterSample.next } }

theorem State.quantumEnds_eq (s : State) (b : BitPos) : s.quantumEnds b =
    if (s.resyncedBit b).afterSample.ends then
      { s.quantumPassed b with line := { (s.quantumPassed b).line with driver := (s.quantumPassed b).nextDrive } }
    else s.quantumPassed b := rfl

theorem State.sampledLine_frame (s : State) (b : BitPos) : (s.sampledLine b).driver = s.line.driver
    ∧ (s.sampledLine b).confinement = s.line.confinement ∧ (s.sampledLine b).stuck = s.line.stuck := by
  unfold State.sampledLine
  dsimp only
  split <;> simp [LineState.edgeIntegrating_frame]

@[simp] theorem State.quantumPassed_mayDrive (s : State) (b : BitPos) : (s.quantumPassed b).mayDrive = s.mayDrive := by
  obtain ⟨-, hconf, hstuck⟩ := s.sampledLine_frame b
  unfold State.mayDrive
  change (decide ((s.sampledLine b).confinement ≠ _) && _ && !(s.sampledLine b).stuck) = _
  rw [hconf, hstuck]
  rfl

/-- At a bit's end the driver takes a level that R73's conditions allow, and else stays as it is (R73). -/
theorem State.quantumEnds_driver (s : State) (b : BitPos) : (s.quantumEnds b).line.driver = s.line.driver
    ∨ (s.mayDrive = false → (s.quantumEnds b).line.driver = .recessive) := by
  rw [State.quantumEnds_eq]
  split
  · exact .inr fun hmay => State.nextDrive_of_barred (by simpa using hmay)
  · exact .inl (s.sampledLine_frame b).1

/-! ### The operations -/

section
variable {s : State} (h : LineSafe s)
include h

theorem LineSafe.congr {t : State} (hl : t.line = s.line) (hp : t.round.participation = s.round.participation)
    (ho : t.supply.oscillator = s.supply.oscillator) : LineSafe t := by
  rw [lineSafe_iff] at *
  rwa [hl, hp, ho]

theorem LineSafe.sameDrive {t : State} (hp : t.round.participation = .listen → s.round.participation = .listen)
    (ho : s.supply.oscillator = .stable → t.supply.oscillator = .stable) (hl : s.line.SameDrive t.line) : LineSafe t := by
  rw [lineSafe_iff] at *
  exact h.sameDrive hp ho hl

theorem LineSafe.withLine {l : LineState} (hl : LineState.SameDrive { s.line with driver := .recessive } l) : LineSafe { s with line := l } := by
  rw [lineSafe_iff] at *
  exact h.release.sameDrive id id hl

/-- A dominant start bit, where nothing bars the driver. -/
theorem LineSafe.driven {t : State} (hmay : s.mayOffer = true) (hp : t.round.participation = s.round.participation)
    (ho : t.supply.oscillator = s.supply.oscillator) (hconf : t.line.confinement = s.line.confinement)
    (hstuck : t.line.stuck = s.line.stuck) (htx : t.line.txErrors = s.line.txErrors) (hrx : t.line.rxErrors = s.line.rxErrors) :
    LineSafe t := by
  rw [lineSafe_iff] at *
  rw [hp, ho]
  exact h.driven (State.not_barred_of_mayOffer hmay) hconf hstuck htx hrx

theorem LineSafe.offer : LineSafe s.offer := by
  unfold State.offer
  split
  next hoffer => exact h.driven hoffer.2 (by simp) (by simp) rfl rfl rfl rfl
  next => exact h

theorem LineSafe.edgeBegins : LineSafe s.edgeBegins := by
  by_cases hoffer : s.mayOffer = true
  · refine h.driven hoffer ?_ ?_ ?_ ?_ ?_ ?_ <;> simp
  · rw [lineSafe_iff] at *
    refine h.release.sameDrive (by simp) (by simp) ?_
    constructor <;> simp [hoffer]

theorem LineSafe.handleExpiry : LineSafe s.handleExpiry := by
  unfold State.handleExpiry
  split
  · exact h.congr rfl rfl rfl
  · split
    · exact LineSafe.offer (h.sameDrive id id (s.line.placeOpening_sameDrive _))
    · exact h.congr rfl rfl rfl

theorem LineSafe.closeRound : LineSafe s.closeRound := by
  refine h.sameDrive (by simp) (by simp) ?_
  rw [State.closeRound_line]
  exact s.line.dropTo_sameDrive _

theorem LineSafe.closedIfDue : LineSafe s.closedIfDue := by
  unfold State.closedIfDue
  split
  · exact h.closeRound
  · exact h

theorem LineSafe.frameEnded : LineSafe s.frameEnded := by
  rw [State.frameEnded_eq]
  split
  · exact h.closedIfDue.handleExpiry
  · exact h.closedIfDue

/-- The driver is released as a frame completes, and the confinement state read from the counts that it changes. -/
theorem LineSafe.completeFrame : LineSafe s.completeFrame := by
  rw [lineSafe_iff] at *
  rw [State.completeFrame_line, State.completeFrame_round, (State.completeFrame_frame s).2.1]
  obtain ⟨hdriver, htime, hconf, hstuck⟩ := s.line.ended_drive
  refine (h.1.released ?_ (.inl hdriver) (.inr htime)).reread
  unfold DriverBarred
  rw [hconf, hstuck]
  exact id

theorem LineSafe.enterMuted : LineSafe s.enterMuted := by
  refine h.sameDrive (by simp) (congrArg SupplyState.oscillator s.enterMuted_bare ▸ id) ?_
  rw [State.enterMuted_line]
  exact s.line.dropTo_sameDrive _

theorem LineSafe.clash : LineSafe s.clash := by
  have hmuted : LineSafe s.mutedByClash := by
    unfold State.mutedByClash
    split
    · exact h
    · exact h.enterMuted
  rw [State.clash_eq]
  exact hmuted.frameEnded.congr (by simp) (by simp) (by simp)

theorem LineSafe.takeReference (o : Opening) : LineSafe (s.takeReference o) := by
  refine h.sameDrive (by simp) (congrArg SupplyState.oscillator (s.takeReference_bare o) ▸ id) ?_
  rw [State.takeReference_line]
  split
  · exact s.lineAtReference_sameDrive.trans (LineState.withQueue_sameDrive _ _)
  · exact s.lineAtReference_sameDrive

theorem LineSafe.openingCompletes (o : Opening) : LineSafe (s.openingCompletes o) := by
  have hc := h.completeFrame
  unfold State.openingCompletes
  dsimp only
  split
  · exact hc.clash
  · split
    · exact hc.frameEnded
    · split
      · have hm : LineSafe { s.completeFrame with
            round := { s.completeFrame.round with participation := .member, joinTimer := none } } :=
          hc.sameDrive (by simp) id (.refl _)
        exact (hm.takeReference o).congr (by simp) (by simp) (by simp)
      · exact (hc.takeReference o).congr (by simp) (by simp) (by simp)

theorem LineSafe.noticeCompletes (n : Notice) : LineSafe (s.noticeCompletes n) := by
  have hc := h.completeFrame
  unfold State.noticeCompletes
  dsimp only
  split
  · exact hc.clash
  · exact LineSafe.frameEnded (hc.congr (by simp) (by simp) (by simp))

theorem LineSafe.delimiterEnds : LineSafe s.delimiterEnds :=
  LineSafe.frameEnded (h.withLine s.line.afterDelimiter_sameDrive)

theorem LineSafe.getsStuck : LineSafe s.getsStuck := by
  rw [State.getsStuck_eq]
  refine LineSafe.closedIfDue ?_
  rw [lineSafe_iff] at *
  exact ⟨.of_recessive rfl rfl, h.2⟩

theorem LineSafe.takeError (k : ErrorKind) : LineSafe (s.takeError k) := by
  rw [lineSafe_iff] at *
  have herrored : LineFits s.line.errored s.round.participation s.supply.oscillator := by
    refine DriverFits.reread ?_
    cases s.line.role <;> exact h.1.released id (.inl rfl) (.inr rfl)
  rw [State.takeError_line, (State.takeError_frame s k).2.2.2.1, (State.takeError_frame s k).2.1]
  exact herrored.sameDrive id id ⟨rfl, rfl, rfl, rfl, rfl, rfl⟩

/-- A wake leaves the driver recessive with no dominant drive time (R72, R105). -/
theorem LineSafe.wakeUp : LineSafe s.wakeUp := by
  rw [lineSafe_iff] at *
  rw [State.wakeUp_line_eq, (State.wakeUp_frame s).2.2.1]
  split
  · exact ⟨.of_recessive rfl rfl, h.2⟩
  next hawake => rwa [State.wakeUp_of_awake (by simpa using hawake)]

theorem LineSafe.fallAsleep : LineSafe s.fallAsleep := by
  rw [lineSafe_iff] at *
  rw [State.fallAsleep_line]
  exact ⟨.of_recessive rfl rfl, h.2⟩

/-- A standing fault drives dominant only where nothing bars the driver (R105). -/
theorem LineSafe.holdDriver (hosc : s.supply.oscillator = .stable) : LineSafe s.holdDriver := by
  unfold State.holdDriver
  split
  next hheld =>
    have hmay : s.mayDrive = true := by simp_all [State.driverHeld]
    refine ⟨fun hbar => ?_, h.2⟩
    exact absurd hmay (by simpa [State.mayDrive, hosc] using hbar)
  next => exact h

/-- A recessive driver has no dominant drive time after a cycle (R105). -/
theorem LineSafe.countDrive : LineSafe { s with line := s.line.countDrive } := by
  obtain ⟨hdrive, hagrees⟩ := h
  refine ⟨fun hbar => ?_, hagrees⟩
  obtain ⟨hdriver, -⟩ := hdrive hbar
  simp [LineState.countDrive, hdriver]

theorem LineSafe.quantumEnds (hosc : s.supply.oscillator = .stable) (b : BitPos) : LineSafe (s.quantumEnds b) := by
  obtain ⟨hdrive, hagrees⟩ := h
  obtain ⟨-, -, -, htx, hrx, hconf, -, -, htime, hstuck, -⟩ := s.quantumEnds_line b
  refine ⟨fun hbar => ?_, ?_⟩
  · have hmay : s.mayDrive = false := by simpa [State.mayDrive, hconf, hstuck, hosc] using hbar
    obtain ⟨hdriver, hzero⟩ := hdrive (.inl hmay)
    exact ⟨(s.quantumEnds_driver b).elim (·.trans hdriver) (· hmay), htime.trans hzero⟩
  · unfold ConfinementAgrees
    rwa [hconf, htx, hrx]

/-- A cycle drives dominant only where nothing bars the driver, and counts its dominant time (R73, R105). -/
theorem LineSafe.lineCycle (hosc : s.supply.oscillator = .stable) (b : BitPos) : LineSafe (s.lineCycle b) := by
  have hcounted : LineSafe { s.holdDriver with line := s.holdDriver.line.countDrive } := (h.holdDriver hosc).countDrive
  unfold State.lineCycle
  dsimp only
  split
  · exact hcounted.quantumEnds (by simpa using hosc) b
  · exact hcounted

theorem LineSafe.tick : LineSafe s.tick := by
  have hclock : LineSafe { s with
      clock := s.clock + 1
      pins := { s.pins with riserHigh := s.pins.riserAhead.head?.getD s.pins.riserHigh, riserAhead := s.pins.riserAhead.tail } } :=
    h.congr rfl rfl rfl
  unfold State.tick
  dsimp only
  split
  next hosc =>
    split
    · exact hclock
    · exact hclock.lineCycle (by simpa [State.oscStable] using hosc) _
  next => exact hclock

theorem LineSafe.effect (c : Instr) : LineSafe (effect c s) := by
  have hask (t : State) (ht : LineSafe t) : LineSafe t.askSleep :=
    ht.congr (by simp) (by simp) (by rw [State.askSleep_supply])
  cases c with
  | supplyDipReset => exact effect_keeps hask rfl h ((lineSafe_iff _).2 ⟨.of_recessive rfl rfl, fun _ => rfl⟩)
  | start p =>
    simp only [Machine.effect, exec, execStart]
    split
    · exact (lineSafe_iff _).2 ⟨.of_recessive rfl rfl, fun _ => rfl⟩
    · exact h
  | retainedStoreLoss =>
    simp only [Machine.effect, exec, execRetainedStoreLoss]
    split
    · exact h.congr rfl rfl rfl
    · exact h
  | fastOscillatorStable =>
    refine effect_keeps hask rfl h ?_
    split
    · split
      · refine h.sameDrive (by simp) (fun _ => ?_) ?_
        · unfold State.oscillatorStable
          dsimp only
          split <;> rfl
        · rw [State.oscillatorStable_line]
          exact ⟨rfl, rfl, rfl, rfl, rfl, rfl⟩
      · exact h
    · exact h
    · exact h
  | mainsFail =>
    refine effect_keeps hask rfl h ?_
    split
    · exact h.wakeUp.congr (by simp) (by simp) (by simp [State.mainsFails])
    · exact h
  | mainsReturn =>
    refine effect_keeps hask rfl h ?_
    split
    · exact h.wakeUp.congr (by simp) (by simp) (by simp [State.mainsReturns])
    · exact h
  | openingFrame o => exact effect_keeps hask rfl h (by split; { exact h.openingCompletes o }; { exact h })
  | notice n => exact effect_keeps hask rfl h (by split; { exact h.noticeCompletes n }; { exact h })
  | roundTimerExpiry => exact effect_keeps hask rfl h (by split; { exact h.handleExpiry }; { exact h })
  | joinTimerExpiry =>
    refine effect_keeps hask rfl h ?_
    (repeat' split)
    · exact h
    · exact h.sameDrive (by simp) (by simp [State.joinExpires]) (by simp [State.joinExpires, LineState.SameDrive.refl])
    · exact h
  | roundTimerLead =>
    refine effect_keeps hask rfl h ?_
    split
    · exact h.wakeUp.congr (by simp) (by simp) (by simp)
    · exact h
  | lineEdgeWake =>
    refine effect_keeps hask rfl h ?_
    (repeat' split)
    · exact h.wakeUp.congr rfl rfl rfl
    · exact h.congr rfl rfl rfl
    · exact h
  | closeEvent => exact effect_keeps hask rfl h (by split; { exact h.closeRound }; { exact h })
  | lineIdle =>
    refine effect_keeps hask rfl h ?_
    split
    · exact LineSafe.offer (h.sameDrive id id ⟨rfl, rfl, rfl, rfl, rfl, rfl⟩)
    · exact h
  | loseArbitration =>
    refine effect_keeps hask rfl h ?_
    split
    · exact h.withLine ⟨rfl, rfl, rfl, rfl, rfl, rfl⟩
    · exact h
  | frameError =>
    refine effect_keeps hask rfl h ?_
    split
    · exact h
    · exact h.takeError _
  | errorDelimiterEnd => exact effect_keeps hask rfl h (by split; { exact h.delimiterEnds }; { exact h })
  | extraWaitExpiry =>
    refine effect_keeps hask rfl h ?_
    split
    · split
      · exact LineSafe.offer (h.sameDrive id id ⟨rfl, rfl, rfl, rfl, rfl, rfl⟩)
      · exact h
    · exact h
    · exact h
  | dominantTimeout =>
    refine effect_keeps hask rfl h ?_
    split
    · rw [lineSafe_iff, State.readConfinement_line]
      exact (DriverFits.of_recessive rfl rfl).reread
    · exact h
  | lineStuck => exact effect_keeps hask rfl h (by split; { exact h.getsStuck }; { exact h })
  | lineStuckClear =>
    refine effect_keeps hask rfl h ?_
    split
    next hstuck =>
      rw [lineSafe_iff] at *
      obtain ⟨hdrive, hagrees⟩ := h
      obtain ⟨-, htime⟩ := hdrive (.inr (.inr (.inl (by simp_all))))
      exact ⟨.of_recessive rfl htime, hagrees⟩
    next => exact h
  | returnFromOffline =>
    refine effect_keeps hask rfl h ?_
    split
    next hoff =>
      refine LineSafe.offer ?_
      rw [lineSafe_iff] at *
      obtain ⟨hdriver, htime⟩ := h.1 (.inl (by simp_all))
      simp only [State.raiseCarry_frame]
      exact ⟨.of_recessive hdriver htime, fun _ => rfl⟩
    next => exact h
  | demandLevelTaken =>
    refine effect_keeps hask rfl h ?_
    split
    · have hw := h.wakeUp
      by_cases ha : s.acting = true
      · exact hw.congr (by simp [ha]) (by simp) (by simp [State.demandTaken, ha])
      · exact h.congr (by simp [ha]) (by simp) (by simp [State.demandTaken, ha])
    · exact h
  | readySeen =>
    refine effect_keeps hask rfl h ?_
    dsimp only
    split
    · exact h.congr (by simp) (by simp) (by simp)
    · exact h.wakeUp.congr (by simp) (by simp) (by simp)
  | readyLost =>
    refine effect_keeps hask rfl h ?_
    have hwoken : LineSafe (if s.pins.ready then s.wakeUp else s) := by split; { exact h.wakeUp }; { exact h }
    generalize (if s.pins.ready then s.wakeUp else s) = w at hwoken
    dsimp only
    split
    · exact hwoken.congr (by simp) (by simp) (by simp)
    · exact hwoken.congr rfl rfl rfl
  | enterSleep => exact effect_keeps hask rfl h (by split; { exact h.fallAsleep }; { exact h })
  | startBitEdge =>
    refine effect_keeps hask rfl h ?_
    split
    · split
      · exact h.edgeBegins
      · exact h.edgeBegins
      · split
        · exact h.delimiterEnds.edgeBegins
        · exact h
      · exact h
      · exact h
    · exact h
  | shareComputationComplete | loweringPoint | raisingPoint | mutedReportPoint | roundAgeLimit =>
    refine h.congr ((effect_sameBut _ s).line (by simp [touched])) ?_ ?_
    · refine effect_proj (·.round.participation) (by simp) rfl ?_
      (repeat' split) <;> simp [State.computationCompletes_eq, State.losesReference]
    · exact ((effect_sameBut _ s).supply_fields (by simp [touched])).2.2.2.1
  | mainsSenseChange => exact effect_keeps hask rfl h (by split <;> exact h)
  | _ =>
    exact h.congr ((effect_sameBut _ s).line (by simp [touched]))
      (congrArg RoundState.participation ((effect_sameBut _ s).round (by simp [touched])))
      ((effect_sameBut _ s).supply_fields (by simp [touched])).2.2.2.1

end

/-- Settles O52: every command that drives dominant offers a frame that nothing bars, and every entry into a barring state releases the driver. -/
theorem stepKeepsLineSafe : Obligations.StepKeepsLineSafe := fun _ _ hd hc =>
  step_keeps (P := LineSafe) (fun _ _ h => h) (fun _ h => h.tick) (fun c _ h => h.effect c) ⟨hd, hc⟩

end Sys2Proof.Machine

end

section
/-! ## The strap word and the feed converter -/

namespace Sys2Proof.Machine

/-- A wake leaves the straps and the mains state. -/
@[simp] theorem State.wakeUp_straps (s : State) : s.wakeUp.supply.strapWord = s.supply.strapWord
    ∧ s.wakeUp.supply.mains = s.supply.mains ∧ s.wakeUp.supply.power = s.supply.power ∧ s.wakeUp.supply.cause = s.supply.cause := by
  unfold State.wakeUp
  split <;> simp

/-! ### The targets (R115) -/

/-- The targets of two stations agree. -/
def SameTargets (s t : State) : Prop := t.feedTarget = s.feedTarget ∧ t.chargeTarget = s.chargeTarget

theorem SameTargets.of_strap {s t : State} (hpart : t.round.participation = s.round.participation)
    (href : t.round.referenced = s.round.referenced) (hpresent : t.peers.present = s.peers.present)
    (hfeed : t.share.feedGrant = s.share.feedGrant) (hcharge : t.share.chargeGrant = s.share.chargeGrant)
    (hstrap : t.supply.strapWord = s.supply.strapWord) : SameTargets s t := by
  simp [SameTargets, State.chargeTarget, State.feedTarget, State.drawsByGrant, State.ownRecordPresent, State.address, State.ceiling, hpart,
    href, hpresent, hfeed, hcharge, hstrap]

theorem SameTargets.of_eq {s t : State} (hpart : t.round.participation = s.round.participation)
    (href : t.round.referenced = s.round.referenced) (hpresent : t.peers.present = s.peers.present)
    (hfeed : t.share.feedGrant = s.share.feedGrant) (hcharge : t.share.chargeGrant = s.share.chargeGrant)
    (hsup : t.supply.bare = s.supply.bare) : SameTargets s t :=
  .of_strap hpart href hpresent hfeed hcharge (by
    have h := congrArg SupplyState.strapWord hsup
    exact h)

theorem SameTargets.of_blocks {s t : State} (hr : t.round = s.round) (hp : t.peers = s.peers) (hs : t.share = s.share)
    (hsup : t.supply = s.supply) : SameTargets s t :=
  .of_eq (by rw [hr]) (by rw [hr]) (by rw [hp]) (by rw [hs]) (by rw [hs]) (by rw [hsup])

/-- A request for a status frame writes of the supply controller the sleep frame alone (R164, R167). -/
@[simp] theorem State.requestStatus_straps (s : State) : s.requestStatus.supply.strapWord = s.supply.strapWord
    ∧ s.requestStatus.supply.mains = s.supply.mains ∧ s.requestStatus.supply.oscillator = s.supply.oscillator
    ∧ s.requestStatus.supply.asleep = s.supply.asleep := by
  unfold State.requestStatus State.startStatus
  split <;> simp

@[simp] theorem State.askSleep_straps (s : State) : s.askSleep.supply.strapWord = s.supply.strapWord
    ∧ s.askSleep.supply.mains = s.supply.mains ∧ s.askSleep.supply.oscillator = s.supply.oscillator
    ∧ s.askSleep.supply.asleep = s.supply.asleep := by
  rw [State.askSleep_supply]
  exact ⟨rfl, rfl, rfl, rfl⟩

/-! ### The strap word -/

/-- Every command but a start leaves the strap word (R159). -/
theorem effect_strapWord (c : Instr) (hc : ∀ p, c ≠ .start p) (s : State) : (effect c s).supply.strapWord = s.supply.strapWord := by
  have hask (t : State) : t.askSleep.supply.strapWord = t.supply.strapWord := by rw [State.askSleep_supply]
  cases c with
  | start p => exact absurd rfl (hc p)
  | retainedStoreLoss =>
    simp only [effect, exec, execRetainedStoreLoss]
    split <;> rfl
  | supplyDipReset | fastOscillatorStable | mainsSenseChange | mainsFail | mainsReturn | roundTimerLead | lineEdgeWake | demandLevelTaken
  | readySeen | readyLost | enterSleep =>
    refine effect_proj (·.supply.strapWord) hask rfl ?_
    (repeat' split) <;>
      simp [State.inReset, State.oscillatorStable, State.startStatus, State.mainsFails, State.mainsReturns, State.demandTaken, State.fallAsleep,
        apply_ite State.supply, apply_ite SupplyState.strapWord]
  | _ => exact ((effect_sameBut _ s).supply_fields (by simp [touched])).2.1

/-! ### What the commands do to the converter, said once -/

/-- A converter that goes on in its state, or from one in which it does not run to another, its setpoints as they were: its gates stay, go
off, or are driven in RUN, one at a time (R109), and its counts stay in their ranges. -/
structure ConverterState.Tuned (c d : ConverterState) : Prop where
  mode : d.mode = c.mode ∨ (c.mode ≠ .run ∧ d.mode ≠ .run)
  setpoints : d.feedSetpoint = c.feedSetpoint ∧ d.chargeSetpoint = c.chargeSetpoint
  gates : (d.gateHigh = c.gateHigh ∧ d.gateLow = c.gateLow) ∨ (d.gateHigh = false ∧ d.gateLow = false)
    ∨ (c.mode = .run ∧ ¬ (d.gateHigh = true ∧ d.gateLow = true))
  ranges : ConverterRanges c → ConverterRanges d

/-- The converter as it enters RUN (R114, R116). -/
def State.runEntered (s : State) : State :=
  ({ s with conv := { s.conv with mode := .run, command := 0 } } : State).setSetpoints 0 0

/-- The converter as a latch interval ends (R119). -/
def ConverterState.intervalEnded (c : ConverterState) (now : Time) : ConverterState :=
  { c with latchCount := if c.latchMark then c.latchCount else 0, latchMark := false, intervalTimer := now + ms 2000 }

theorem State.intervalBoundary_eq (s : State) : s.intervalBoundary =
    if s.conv.mode = .held then
      if riserFit s.conv.window then State.enterRun { s with conv := s.conv.intervalEnded s.clock }
      else { s with conv := { s.conv.intervalEnded s.clock with mode := .riserAbsent } }
    else { s with conv := s.conv.intervalEnded s.clock } := rfl

theorem ConverterRanges.intervalEnded {c : ConverterState} (now : Time) (h : ConverterRanges c) : ConverterRanges (c.intervalEnded now) := by
  obtain ⟨hpeak, hlatch, hrest⟩ := h
  refine ⟨hpeak, ?_, hrest⟩
  simp only [ConverterState.intervalEnded]
  split <;> omega

/-- The riser window with the sample of a measurement event (R112). -/
def State.riserSampled (s : State) (voltage : Nat) : State :=
  { s with conv := { s.conv with window := pushWindow 16 s.conv.window voltage } }

/-- The converter after the riser window's sample: its state by the riser-absent mean, regulated and ramped in RUN (R113, R115, R116). -/
def State.modeSampled (s : State) (voltage current : Nat) : State :=
  let fit := riserFit (pushWindow 16 s.conv.window voltage)
  match s.conv.mode with
  | .idle => if s.inOutage then (if fit then (s.riserSampled voltage).enterRun else (s.riserSampled voltage).converterStops .riserAbsent)
      else s.riserSampled voltage
  | .run => if fit then ((s.riserSampled voltage).regulate current).ramp else (s.riserSampled voltage).leaveRun .riserAbsent
  | .riserAbsent => if fit then (s.riserSampled voltage).enterRun else s.riserSampled voltage
  | .held => s.riserSampled voltage
  | .disabled => s.riserSampled voltage

theorem State.converterSample_eq (s : State) (voltage current : Nat) : s.converterSample voltage current =
    { s.modeSampled voltage current with conv := { (s.modeSampled voltage current).conv with railLimited := false } } := rfl

/-- What battery monitor and demand former have taken of a measurement event (R56, R127, R132). -/
def State.offered (s : State) (tb : TimeBase) (m : Samples) : State :=
  let s1 := (s.nextMeasurement tb).batterySample m.battVoltage m.battCurrent
  { s1 with
    pins := { s1.pins with riserHigh := decide (6000 < m.riserVoltage) }
    demand := { s1.demand with window := pushWindow 64 s1.demand.window m.riserVoltage } }

theorem State.measured_eq (s : State) (tb : TimeBase) (m : Samples) : s.measured tb m =
    (((s.offered tb m).testSample m.battVoltage m.battCurrent).converterSample m.riserVoltage m.riserCurrent).raiseCarry := rfl

/-- The command of R116 lies within its range. -/
theorem commandStep_le {command : Nat} (h : command ≤ 64) (sum current : Nat) (limited : Bool) : commandStep command sum current limited ≤ 64 := by
  unfold commandStep
  (repeat' split) <;> omega

/-- An on-time runs in RUN alone. -/
theorem State.mode_of_onTimeSince {s : State} {t : Time} (h : s.onTimeSince = some t) : s.conv.mode = .run := by
  unfold State.onTimeSince at h
  split at h
  next hrun _ => exact hrun
  next => simp at h

theorem ConverterState.settledPeakRun_le (c : ConverterState) (h : c.peakRun ≤ 32) : c.settledPeakRun ≤ 32 := by
  unfold ConverterState.settledPeakRun
  split <;> omega

/-- The gates at the beginning of a switching period are driven in RUN alone, one at a time (R109). -/
theorem ConverterState.beginPeriod_tuned (c : ConverterState) (now : Time) : c.Tuned (c.beginPeriod now) := by
  unfold ConverterState.beginPeriod
  split
  next hrun =>
    split
    · exact ⟨.inl rfl, ⟨rfl, rfl⟩, .inr (.inr ⟨hrun.1, by simp⟩), id⟩
    · exact ⟨.inl rfl, ⟨rfl, rfl⟩, .inr (.inr ⟨hrun.1, by simp⟩), id⟩
  next => exact ⟨.inl rfl, ⟨rfl, rfl⟩, .inr (.inl ⟨rfl, rfl⟩), id⟩

@[simp] theorem State.oscillatorStable_conv (s : State) : s.oscillatorStable.conv = { s.conv with
    timeBase := some { nextPeriod := s.clock + s.switchOffset, nextMeasure := s.clock + ms 1 }, onTime := .none }
    ∧ s.oscillatorStable.supply.strapWord = s.supply.strapWord ∧ s.oscillatorStable.supply.mains = s.supply.mains
    ∧ s.oscillatorStable.supply.asleep = s.supply.asleep := by
  unfold State.oscillatorStable
  dsimp only
  split <;> exact ⟨rfl, rfl, rfl, rfl⟩

/-- The gates' going off leaves state and setpoints. -/
@[simp] theorem State.gatesOff_conv (s : State) : s.gatesOff.conv.mode = s.conv.mode
    ∧ s.gatesOff.conv.feedSetpoint = s.conv.feedSetpoint ∧ s.gatesOff.conv.chargeSetpoint = s.conv.chargeSetpoint
    ∧ s.gatesOff.conv.gateHigh = false ∧ s.gatesOff.conv.gateLow = false := by
  unfold State.gatesOff
  split <;> exact ⟨rfl, rfl, rfl, rfl, rfl⟩

/-- A property of the converter and its targets that every move of the converter keeps: one that leaves both, a change of the targets that
the setpoints follow, a ramp step in RUN, a stop, an entry into RUN, and a change within the state (R113 to R119). -/
structure ConvClosed (P : State → Prop) : Prop where
  fresh : ∀ {t : State} (x : Time) (b : Bool), t.conv = { intervalTimer := x, riserLowShut := b } → P t
  same : ∀ {s t : State}, P s → t.conv = s.conv → SameTargets s t → P t
  retarget : ∀ {s u : State}, P s → u.conv = s.conv → P u.retarget
  ramp : ∀ {s : State}, P s → s.conv.mode = .run → P s.ramp
  stops : ∀ {s : State} {m : ConverterMode}, P s → m ≠ .run → P (s.converterStops m)
  runs : ∀ {s : State}, P s → P s.runEntered
  tuned : ∀ {s : State} {c : ConverterState}, P s → s.conv.Tuned c → P { s with conv := c }

/-- The converter is that of a state with the property: its targets may have moved, and are still to be followed. -/
def ConvFrom (P : State → Prop) (u : State) : Prop := ∃ s, P s ∧ u.conv = s.conv

section
variable {P : State → Prop} (hP : ConvClosed P) {s : State}
include hP

theorem ConvClosed.retargeted (h : ConvFrom P s) : P s.retarget := by
  obtain ⟨_, h, hconv⟩ := h
  exact hP.retarget h hconv

theorem ConvClosed.gatesOff (h : P s) : P s.gatesOff := by
  unfold State.gatesOff
  split
  · exact hP.tuned h ⟨.inl rfl, ⟨rfl, rfl⟩, .inr (.inl ⟨rfl, rfl⟩), fun ⟨_, hrest⟩ => ⟨Nat.zero_le _, hrest⟩⟩
  · exact hP.tuned h ⟨.inl rfl, ⟨rfl, rfl⟩, .inr (.inl ⟨rfl, rfl⟩), id⟩
  · exact hP.tuned h ⟨.inl rfl, ⟨rfl, rfl⟩, .inr (.inl ⟨rfl, rfl⟩), id⟩

theorem ConvClosed.leaveRun {m : ConverterMode} (h : P s) (hm : m ≠ .run) : P (s.leaveRun m) :=
  hP.same (hP.stops h hm) (by simp [State.leaveRun]) (.of_blocks (by simp [State.leaveRun]) (by simp [State.leaveRun])
    (by simp [State.leaveRun]) (by simp [State.leaveRun]))

theorem ConvClosed.enterRun (h : P s) : P s.enterRun := by
  have hruns : s.enterRun = if s.pins.riserHigh then s.runEntered.leaveRun .held else s.runEntered := rfl
  rw [hruns]
  split
  · exact hP.leaveRun (hP.runs h) (by simp)
  · exact hP.runs h

theorem ConvClosed.enterIdle (h : P s) : P s.enterIdle :=
  hP.tuned (hP.stops h (by simp)) ⟨.inl rfl, ⟨rfl, rfl⟩, .inl ⟨rfl, rfl⟩, fun ⟨_, _, hrest⟩ => ⟨Nat.zero_le _, Nat.zero_le _, hrest⟩⟩

theorem ConvClosed.intervalBoundary (h : P s) : P s.intervalBoundary := by
  rw [State.intervalBoundary_eq]
  split
  next hheld =>
    split
    · exact hP.enterRun (hP.tuned h ⟨.inl rfl, ⟨rfl, rfl⟩, .inl ⟨rfl, rfl⟩, .intervalEnded _⟩)
    · exact hP.tuned h ⟨.inr ⟨by simp [hheld], by simp⟩, ⟨rfl, rfl⟩, .inl ⟨rfl, rfl⟩, .intervalEnded s.clock⟩
  next => exact hP.tuned h ⟨.inl rfl, ⟨rfl, rfl⟩, .inl ⟨rfl, rfl⟩, .intervalEnded _⟩

theorem ConvClosed.grantSeen (h : P s) (n : Nat) : P (s.grantSeen n) :=
  hP.same h (by simp) (.of_blocks (by simp) (by simp) (by simp) (by simp))

theorem ConvClosed.abortTest (h : P s) (v : Verdict) : P (s.abortTest v) :=
  hP.same h (by simp) (.of_blocks (by simp) (by simp) (by simp) (by simp))

/-! ### The feed round -/

theorem ConvClosed.closeRound (h : ConvFrom P s) : P s.closeRound := by
  obtain ⟨s₀, h, hconv⟩ := h
  unfold State.closeRound
  exact hP.retarget h (by simpa using hconv)

theorem ConvClosed.applyLowering (h : ConvFrom P s) : P s.applyLowering := by
  obtain ⟨s₀, h, hconv⟩ := h
  unfold State.applyLowering
  dsimp only
  refine hP.grantSeen ?_ _
  have hlow := hP.intervalBoundary (hP.retarget (u := { s with share := { s.share with
    feedGrant := min s.share.feedGrant s.share.computedFeed
    chargeGrant := min s.share.chargeGrant s.share.computedCharge } }) h hconv)
  split
  · exact hlow
  · split
    · exact hP.abortTest hlow _
    · exact hlow

theorem ConvClosed.applyRaising (h : ConvFrom P s) : P s.applyRaising := by
  obtain ⟨s₀, h, hconv⟩ := h
  unfold State.applyRaising
  dsimp only
  have hraised := hP.grantSeen (hP.retarget (u := { s with share := s.share.raised s.ceiling }) h hconv) s.share.feedGrant
  exact hP.same hraised (by simp) (.of_eq (by simp) (by simp) (by simp) (by simp) (by simp) (by simp))

theorem ConvClosed.lowered (h : P s) : P s.lowered := by
  unfold State.lowered
  split
  · exact hP.applyLowering ⟨s, h, rfl⟩
  · exact h

theorem ConvClosed.runPoints (h : P s) : P s.runPoints := by
  rw [State.runPoints_eq]
  split
  · exact hP.applyRaising ⟨_, hP.lowered h, rfl⟩
  · exact hP.lowered h

theorem ConvClosed.clearStanding (h : ConvFrom P s) : P s.clearStanding := by
  obtain ⟨s₀, h, hconv⟩ := h
  unfold State.clearStanding
  dsimp only
  refine hP.grantSeen (hP.abortTest (hP.retarget h ?_) _) _
  simpa using hconv

theorem ConvClosed.enterMuted (h : P s) : P s.enterMuted := hP.clearStanding ⟨s, h, rfl⟩

theorem ConvClosed.settlePrevious (h : ConvFrom P s) : ConvFrom P s.settlePrevious := by
  have hclosed : ConvFrom P s.closedIfPending := by
    unfold State.closedIfPending
    split
    · exact ⟨_, hP.closeRound h, rfl⟩
    · exact h
  have hdropped : ConvFrom P { s.closedIfPending with round := s.closedIfPending.round.dropPoints } := hclosed
  rw [State.settlePrevious_eq]
  dsimp only
  split
  · split
    · exact hclosed
    · exact ⟨_, hP.applyLowering hdropped, rfl⟩
  · exact hclosed

/-- At a reference the targets follow the new round, once the time base is re-aligned (R9, R110, R115). -/
theorem ConvClosed.takeReference (h : ConvFrom P s) (o : Opening) : P (s.takeReference o) := by
  have hrealign {u : State} (hu : ConvFrom P u) : ConvFrom P u.realign := by
    obtain ⟨s₀, h₀, hconv⟩ := hu
    unfold State.realign
    split
    · exact ⟨s₀, h₀, hconv⟩
    next tb htb =>
      exact ⟨_, hP.tuned h₀ (c := { u.conv with timeBase := some _ })
        (hconv ▸ ⟨.inl rfl, ⟨rfl, rfl⟩, .inl ⟨rfl, rfl⟩, id⟩), rfl⟩
  have hadopted : ConvFrom P (s.referenceAdopted o) := by
    obtain ⟨s₀, h₀, hconv⟩ := hP.settlePrevious (s := { s with line := s.line.dropOpenings }) h
    exact ⟨s₀, h₀, by simpa [State.referenceAdopted] using hconv⟩
  have htaken : P (s.referenceTaken o) :=
    hP.same (hP.retargeted (hrealign hadopted)) (by simp [State.referenceTaken]) (.of_blocks (by simp [State.referenceTaken])
      (by simp [State.referenceTaken]) (by simp [State.referenceTaken]) (by simp [State.referenceTaken]))
  rw [State.takeReference_eq]
  unfold State.pointsPending State.snapshotIfMember
  split
  · exact hP.same htaken (by simp) (.of_eq (by simp) (by simp) (by simp) (by simp) (by simp) (by simp))
  · exact hP.same htaken rfl ⟨rfl, rfl⟩

theorem ConvClosed.closedIfDue (h : P s) : P s.closedIfDue := by
  unfold State.closedIfDue
  split
  · exact hP.closeRound ⟨s, h, rfl⟩
  · exact h

theorem ConvClosed.frameEnded (h : P s) : P s.frameEnded := by
  rw [State.frameEnded_eq]
  split
  · exact hP.same (hP.closedIfDue h) (by simp) (.of_eq (by simp) (by simp) (by simp) (by simp) (by simp) (by simp))
  · exact hP.closedIfDue h

theorem ConvClosed.clash (h : P s) : P s.clash := by
  have hmuted : P s.mutedByClash := by
    unfold State.mutedByClash
    split
    · exact h
    · exact hP.enterMuted h
  rw [State.clash_eq]
  exact hP.same (hP.frameEnded hmuted) (by simp) (.of_blocks (by simp) (by simp) (by simp) (by simp))

theorem ConvClosed.completeFrame (h : P s) : P s.completeFrame :=
  hP.same h (by simp) (.of_eq (by simp) (by simp) (by simp) (by simp) (by simp) (by simp))

theorem ConvClosed.openingCompletes (h : P s) (o : Opening) : P (s.openingCompletes o) := by
  have hc := hP.completeFrame h
  unfold State.openingCompletes
  dsimp only
  split
  · exact hP.clash hc
  · split
    · exact hP.frameEnded hc
    · have hsettled {t : State} (ht : P t) : P t.settleRepeat :=
        hP.same ht (by simp) (.of_blocks (by simp) (by simp) (by simp) (by simp))
      split
      · exact hsettled (hP.takeReference (s := { s.completeFrame with
          round := { s.completeFrame.round with participation := .member, joinTimer := none } }) ⟨_, hc, rfl⟩ o)
      · exact hsettled (hP.takeReference ⟨_, hc, rfl⟩ o)

theorem ConvClosed.noticeCompletes (h : P s) (n : Notice) : P (s.noticeCompletes n) := by
  have hc := hP.completeFrame h
  unfold State.noticeCompletes
  dsimp only
  split
  · exact hP.clash hc
  · exact hP.frameEnded (hP.retargeted ⟨_, hc, rfl⟩)

theorem ConvClosed.computationCompletes (h : P s) : P s.computationCompletes := by
  have hfinished : P s.finishShare :=
    hP.same h (by simp) (.of_eq (by simp) (by simp) (by simp) (by simp) (by simp) (by simp))
  have howed : P s.finishShare.owedApplied := by
    unfold State.owedApplied
    split
    · exact hP.applyLowering ⟨_, hfinished, rfl⟩
    · exact hfinished
  rw [State.computationCompletes_eq]
  exact hP.same (hP.runPoints howed) (by simp) (.of_blocks (by simp) (by simp) (by simp) (by simp))

theorem ConvClosed.delimiterEnds (h : P s) : P s.delimiterEnds := hP.frameEnded (hP.same h rfl ⟨rfl, rfl⟩)

theorem ConvClosed.getsStuck (h : P s) : P s.getsStuck := hP.closedIfDue (hP.same h rfl ⟨rfl, rfl⟩)

theorem ConvClosed.losesReference (h : P s) : P s.losesReference := by
  have hcleared : P (State.clearStanding { s with round := { s.round with referenced := false } }) := hP.clearStanding ⟨s, h, rfl⟩
  exact hP.same hcleared (by simp [State.losesReference]) (.of_eq (by simp [State.losesReference]) (by simp [State.losesReference])
    (by simp [State.losesReference]) (by simp [State.losesReference]) (by simp [State.losesReference]) (by simp [State.losesReference]))

/-! ### Measurement, switching, latches, sleep -/

/-- What the converter takes of a measurement event (R111 to R116). -/
theorem ConvClosed.converterSample (h : P s) (voltage current : Nat) : P (s.converterSample voltage current) := by
  have hwindow : P (s.riserSampled voltage) :=
    hP.tuned h ⟨.inl rfl, ⟨rfl, rfl⟩, .inl ⟨rfl, rfl⟩, fun ⟨hpeak, hlatch, hcommand, hwin⟩ =>
      ⟨hpeak, hlatch, hcommand, pushWindow_length_le 16 _ _ hwin⟩⟩
  have hregulated : P ((s.riserSampled voltage).regulate current) :=
    hP.tuned hwindow ⟨.inl rfl, ⟨rfl, rfl⟩, .inl ⟨rfl, rfl⟩, fun ⟨hpeak, hlatch, hcommand, hwin⟩ =>
      ⟨hpeak, hlatch, commandStep_le hcommand .., hwin⟩⟩
  have hmode : P (s.modeSampled voltage current) := by
    unfold State.modeSampled
    dsimp only
    split
    · (repeat' split)
      · exact hP.enterRun hwindow
      · exact hP.stops hwindow (by simp)
      · exact hwindow
    next hrun =>
      split
      · exact hP.ramp hregulated hrun
      · exact hP.leaveRun hwindow (by simp)
    · split
      · exact hP.enterRun hwindow
      · exact hwindow
    · exact hwindow
    · exact hwindow
  rw [State.converterSample_eq]
  exact hP.tuned hmode ⟨.inl rfl, ⟨rfl, rfl⟩, .inl ⟨rfl, rfl⟩, id⟩

theorem ConvClosed.measured (h : P s) (tb : TimeBase) (m : Samples) : P (s.measured tb m) := by
  have hnext : P (s.nextMeasurement tb) := hP.tuned h ⟨.inl rfl, ⟨rfl, rfl⟩, .inl ⟨rfl, rfl⟩, id⟩
  have hoffered : P ((s.offered tb m).testSample m.battVoltage m.battCurrent) :=
    hP.same hnext (by simp [State.offered]) (.of_blocks (by simp [State.offered]) (by simp [State.offered]) (by simp [State.offered])
      (by simp [State.offered]))
  rw [State.measured_eq]
  exact hP.same (hP.converterSample hoffered m.riserVoltage m.riserCurrent) (by simp) (.of_blocks (by simp) (by simp) (by simp) (by simp))

theorem ConvClosed.endOnTime (h : P s) (hrun : s.conv.mode = .run) {n : Nat} (hn : n ≤ 32) : P (s.endOnTime n) :=
  hP.tuned h ⟨.inl rfl, ⟨rfl, rfl⟩, .inr (.inr ⟨hrun, by simp⟩), fun ⟨_, hrest⟩ => ⟨hn, hrest⟩⟩

theorem ConvClosed.latches (h : P s) : P s.latches := by
  unfold State.latches
  dsimp only
  refine hP.leaveRun (hP.tuned h ⟨.inl rfl, ⟨rfl, rfl⟩, .inl ⟨rfl, rfl⟩, fun ⟨_, _, hrest⟩ => ⟨Nat.zero_le _, Nat.min_le_left .., hrest⟩⟩) ?_
  split <;> simp

theorem ConvClosed.converterMainsReturn (h : P s) : P s.converterMainsReturn := by
  unfold State.converterMainsReturn
  split
  · exact hP.enterIdle h
  · exact hP.enterIdle h
  · exact hP.enterIdle h
  · exact h
  · exact h

theorem ConvClosed.mainsReturns (h : P s) : P s.mainsReturns := by
  have hfirst : P (State.testMainsReturn (State.terminalMainsReturn { s.wakeUp with
      supply := { s.wakeUp.supply with mains := .present } })) :=
    hP.same h (by simp) (.of_strap (by simp) (by simp) (by simp) (by simp) (by simp) (by simp))
  exact hP.same (hP.converterMainsReturn hfirst) (by simp [State.mainsReturns])
    (.of_blocks (by simp [State.mainsReturns]) (by simp [State.mainsReturns]) (by simp [State.mainsReturns]) (by simp [State.mainsReturns]))

theorem ConvClosed.fallAsleep (h : P s) : P s.fallAsleep := by
  have hoff := hP.gatesOff h
  exact hP.tuned (hP.same hoff (t := { s.gatesOff with
    supply := { s.gatesOff.clearSleepRequest.supply with asleep := true, oscillator := .stopped }
    line := { s.gatesOff.line with driver := .recessive, driveTime := 0, bitPos := none } }) rfl ⟨rfl, rfl⟩)
    ⟨.inl rfl, ⟨rfl, rfl⟩, .inl ⟨rfl, rfl⟩, id⟩

/-- A command keeps what the moves of the converter keep. -/
theorem ConvClosed.effect (h : P s) (c : Instr) : P (effect c s) := by
  have hask (t : State) (ht : P t) : P t.askSleep :=
    hP.same ht (by simp) (.of_eq (by simp) (by simp) (by simp) (by simp) (by simp) (by simp))
  cases c with
  | supplyDipReset => exact effect_keeps hask rfl h (hP.fresh 0 true rfl)
  | start p =>
    simp only [Machine.effect, exec, execStart]
    split
    · exact hP.fresh _ _ rfl
    · exact h
  | retainedStoreLoss =>
    simp only [Machine.effect, exec, execRetainedStoreLoss]
    split
    · exact hP.same h rfl ⟨rfl, rfl⟩
    · exact h
  | fastOscillatorStable =>
    refine effect_keeps hask rfl h ?_
    split
    · split
      · have hbase : P { s with conv := { s.conv with
            timeBase := some { nextPeriod := s.clock + s.switchOffset, nextMeasure := s.clock + ms 1 }, onTime := .none } } :=
          hP.tuned h ⟨.inl rfl, ⟨rfl, rfl⟩, .inl ⟨rfl, rfl⟩, id⟩
        exact hP.same hbase (by simp) (.of_strap (by simp) (by simp) (by simp) (by simp) (by simp) (by simp))
      · exact h
    · exact h
    · exact h
  | mainsReturn => exact effect_keeps hask rfl h (by split; { exact hP.mainsReturns h }; { exact h })
  | openingFrame o => exact effect_keeps hask rfl h (by split; { exact hP.openingCompletes h o }; { exact h })
  | notice n => exact effect_keeps hask rfl h (by split; { exact hP.noticeCompletes h n }; { exact h })
  | joinTimerExpiry =>
    refine effect_keeps hask rfl h ?_
    split
    · exact h
    · split
      · exact hP.retargeted (s := { s with round := { s.round with
          participation := .member, joinTimer := none, timer := some (s.clock + s.skew) } }) ⟨s, h, rfl⟩
      · exact h
  | closeEvent => exact effect_keeps hask rfl h (by split; { exact hP.closeRound ⟨s, h, rfl⟩ }; { exact h })
  | shareComputationComplete => exact effect_keeps hask rfl h (by split; { exact hP.computationCompletes h }; { exact h })
  | loweringPoint =>
    refine effect_keeps hask rfl h ?_
    split
    · split
      · have hran : P (State.runPoints { s with round := { s.round with loweringDue := true } }) := hP.runPoints (hP.same h rfl ⟨rfl, rfl⟩)
        exact hP.same hran (by simp) (.of_blocks (by simp) (by simp) (by simp) (by simp))
      · exact hP.same h rfl ⟨rfl, rfl⟩
    · exact h
  | raisingPoint =>
    refine effect_keeps hask rfl h ?_
    split
    · split
      · have hran : P (State.runPoints { s with round := { s.round with raisingDue := true } }) := hP.runPoints (hP.same h rfl ⟨rfl, rfl⟩)
        exact hP.same hran (by simp) (.of_blocks (by simp) (by simp) (by simp) (by simp))
      · exact hP.same h rfl ⟨rfl, rfl⟩
    · exact h
  | roundAgeLimit => exact effect_keeps hask rfl h (by split; { exact hP.losesReference h }; { exact h })
  | errorDelimiterEnd => exact effect_keeps hask rfl h (by split; { exact hP.delimiterEnds h }; { exact h })
  | lineStuck => exact effect_keeps hask rfl h (by split; { exact hP.getsStuck h }; { exact h })
  | startBitEdge =>
    have hedge {u : State} (hu : P u) : P u.edgeBegins := hP.same hu (by simp) (.of_blocks (by simp) (by simp) (by simp) (by simp))
    refine effect_keeps hask rfl h ?_
    split
    · split
      · exact hedge h
      · exact hedge h
      · split
        · exact hedge (hP.delimiterEnds h)
        · exact h
      · exact h
      · exact h
    · exact h
  | measurementEvent m =>
    refine effect_keeps hask rfl h ?_
    split
    · exact h
    · split
      · exact hP.measured h _ _
      · exact h
  | persistLatch => exact effect_keeps hask rfl h (by split; { exact hP.latches h }; { exact h })
  | intervalTimerExpiry =>
    refine effect_keeps hask rfl h ?_
    split
    · exact hP.same (hP.intervalBoundary h) (by simp) (.of_blocks (by simp) (by simp) (by simp) (by simp))
    · exact h
  | riserHighLatch =>
    refine effect_keeps hask rfl h ?_
    dsimp only
    split
    · exact hP.leaveRun (hP.same h rfl ⟨rfl, rfl⟩) (by simp)
    · exact hP.same h rfl ⟨rfl, rfl⟩
  | enterSleep => exact effect_keeps hask rfl h (by split; { exact hP.fallAsleep h }; { exact h })
  | riserLowGateShut =>
    refine effect_keeps hask rfl h ?_
    split
    · exact h
    · exact hP.gatesOff (hP.tuned h ⟨.inl rfl, ⟨rfl, rfl⟩, .inl ⟨rfl, rfl⟩, id⟩)
  | riserLowGateOpen => exact effect_keeps hask rfl h (hP.tuned h ⟨.inl rfl, ⟨rfl, rfl⟩, .inl ⟨rfl, rfl⟩, id⟩)
  | switchingPeriodStart =>
    refine effect_keeps hask rfl h ?_
    split
    · exact h
    · split
      next tb htb hdue =>
        have hsettled : P { s with conv := { s.conv with
            timeBase := some { tb with nextPeriod := tb.nextPeriod + 64 }, peakRun := s.conv.settledPeakRun } } :=
          hP.tuned h ⟨.inl rfl, ⟨rfl, rfl⟩, .inl ⟨rfl, rfl⟩, fun ⟨hpeak, hrest⟩ => ⟨s.conv.settledPeakRun_le hpeak, hrest⟩⟩
        have hbegun := hP.tuned hsettled (ConverterState.beginPeriod_tuned _ s.clock)
        exact hbegun
      next => exact h
  | onTimeEnd =>
    refine effect_keeps hask rfl h ?_
    split
    · exact h
    next t ht =>
      split
      · exact hP.endOnTime h (State.mode_of_onTimeSince ht) (by omega)
      · exact h
  | peakLimit =>
    refine effect_keeps hask rfl h ?_
    split
    · exact h
    next t ht =>
      split
      · exact hP.endOnTime h (State.mode_of_onTimeSince ht) (Nat.min_le_left ..)
      · exact h
  | railLimit =>
    refine effect_keeps hask rfl h ?_
    split
    · exact h
    next t ht =>
      exact hP.tuned (hP.endOnTime h (State.mode_of_onTimeSince ht) (by omega)) ⟨.inl rfl, ⟨rfl, rfl⟩, .inl ⟨rfl, rfl⟩, id⟩
  | railHigh =>
    refine effect_keeps hask rfl h ?_
    split
    · exact h
    next t ht => exact hP.endOnTime h (State.mode_of_onTimeSince ht) (by omega)
  | roundTimerExpiry | lineEdgeWake | mainsFail | mutedReportPoint =>
    refine hP.same h ((effect_sameBut _ s).conv (by simp [touched])) (.of_strap ?_ ?_ ?_ ?_ ?_ (effect_strapWord _ (by simp) s))
    · refine effect_proj (·.round.participation) (by simp) rfl ?_
      (repeat' split) <;> simp
    · refine effect_proj (·.round.referenced) (by simp) rfl ?_
      (repeat' split) <;> simp
    · exact congrArg PeerState.present ((effect_sameBut _ s).peers (by simp [touched]))
    · exact congrArg ShareState.feedGrant ((effect_sameBut _ s).share (by simp [touched]))
    · exact congrArg ShareState.chargeGrant ((effect_sameBut _ s).share (by simp [touched]))
  | testDone | resistanceComputed =>
    refine hP.same h ((effect_sameBut _ s).conv (by simp [touched])) (.of_strap
      (congrArg RoundState.participation ((effect_sameBut _ s).round (by simp [touched])))
      (congrArg RoundState.referenced ((effect_sameBut _ s).round (by simp [touched])))
      (congrArg PeerState.present ((effect_sameBut _ s).peers (by simp [touched]))) ?_ ?_ (effect_strapWord _ (by simp) s))
    · refine effect_proj (·.share.feedGrant) (by simp) rfl ?_
      (repeat' split) <;> simp [ShareState.releaseStage, apply_ite ShareState.feedGrant]
    · refine effect_proj (·.share.chargeGrant) (by simp) rfl ?_
      (repeat' split) <;> simp [ShareState.releaseStage, apply_ite ShareState.chargeGrant]
  | _ =>
    exact hP.same h ((effect_sameBut _ s).conv (by simp [touched])) (.of_strap
      (congrArg RoundState.participation ((effect_sameBut _ s).round (by simp [touched])))
      (congrArg RoundState.referenced ((effect_sameBut _ s).round (by simp [touched])))
      (congrArg PeerState.present ((effect_sameBut _ s).peers (by simp [touched])))
      (congrArg ShareState.feedGrant ((effect_sameBut _ s).share (by simp [touched])))
      (congrArg ShareState.chargeGrant ((effect_sameBut _ s).share (by simp [touched])))
      (effect_strapWord _ (by simp) s))

end

/-! ### The two properties -/

theorem ConverterRanges.setSetpoints {s : State} (h : ConverterRanges s.conv) (f c : Nat) : ConverterRanges (s.setSetpoints f c).conv := by
  obtain ⟨hpeak, hlatch, hcommand, hwin⟩ := h
  rw [State.setSetpoints_conv]
  refine ⟨hpeak, hlatch, ?_, hwin⟩
  dsimp only
  split <;> omega

theorem ConverterRanges.gatesOff {s : State} (h : ConverterRanges s.conv) : ConverterRanges s.gatesOff.conv := by
  obtain ⟨hpeak, hrest⟩ := h
  unfold State.gatesOff
  split
  · exact ⟨Nat.zero_le _, hrest⟩
  · exact ⟨hpeak, hrest⟩
  · exact ⟨hpeak, hrest⟩

/-- The converter's counts stay in their ranges whatever it does. -/
theorem convClosed_ranges : ConvClosed fun s => ConverterRanges s.conv where
  fresh x b hconv := by
    rw [hconv]
    simp [ConverterRanges]
  same h hconv _ := by rwa [hconv]
  retarget h hconv := by
    rw [← hconv] at h
    unfold State.retarget
    split
    · exact h.setSetpoints _ _
    · exact h
  ramp h _ := h.setSetpoints _ _
  stops {s m} h _ := ConverterRanges.setSetpoints (s := { s.gatesOff with conv := { s.gatesOff.conv with mode := m } }) h.gatesOff 0 0
  runs {s} h := by
    obtain ⟨hpeak, hlatch, -, hwin⟩ := h
    exact ConverterRanges.setSetpoints (s := { s with conv := { s.conv with mode := .run, command := 0 } })
      ⟨hpeak, hlatch, Nat.zero_le _, hwin⟩ 0 0
  tuned h hc := hc.ranges h

/-- Gates and setpoints as R109, R114 and R115 give them. -/
def ConvSafe (s : State) : Prop := ConverterSafe s ∧ GatesExclusive s ∧ SetpointsWithinTargets s

theorem ConvSafe.of_stopped {s : State} (hmode : s.conv.mode ≠ .run) (hsafe : ConverterSafe s) : ConvSafe s := by
  obtain ⟨hhigh, -, -⟩ := hsafe hmode
  exact ⟨hsafe, fun hboth => by simp [hhigh] at hboth, fun hrun => absurd hrun hmode⟩

theorem ConvSafe.of_running {s : State} (hmode : s.conv.mode = .run) (hgates : ¬ (s.conv.gateHigh = true ∧ s.conv.gateLow = true))
    (hfeed : s.conv.feedSetpoint ≤ s.feedTarget) (hcharge : s.conv.chargeSetpoint ≤ s.chargeTarget) : ConvSafe s :=
  ⟨fun hstop => absurd hmode hstop, hgates, fun _ => ⟨hfeed, hcharge⟩⟩

/-- Setpoints written in RUN that the targets allow. -/
theorem ConvSafe.setSetpoints {s : State} {f c : Nat} (hmode : s.conv.mode = .run)
    (hgates : ¬ (s.conv.gateHigh = true ∧ s.conv.gateLow = true)) (hf : f ≤ s.feedTarget) (hc : c ≤ s.chargeTarget) :
    ConvSafe (s.setSetpoints f c) := by
  obtain ⟨hfeed, hcharge⟩ := SameTargets.of_blocks (s := s) (t := s.setSetpoints f c) (by simp) (by simp) (by simp) (by simp)
  refine .of_running (by simpa using hmode) (by simpa using hgates) ?_ ?_
  · rw [hfeed]
    simpa using hf
  · rw [hcharge]
    simpa using hc

theorem convClosed_safe : ConvClosed ConvSafe where
  fresh x b hconv := by
    simp [ConvSafe, ConverterSafe, GatesExclusive, SetpointsWithinTargets, hconv]
  same h hconv htargets := by
    obtain ⟨hsafe, hgates, hset⟩ := h
    obtain ⟨hfeed, hcharge⟩ := htargets
    refine ⟨?_, ?_, ?_⟩
    · unfold ConverterSafe
      rwa [hconv]
    · unfold GatesExclusive
      rwa [hconv]
    · unfold SetpointsWithinTargets
      rwa [hconv, hfeed, hcharge]
  retarget {s u} h hconv := by
    obtain ⟨hsafe, hgates, -⟩ := h
    have hsafe' : ConverterSafe u := by
      unfold ConverterSafe
      rwa [hconv]
    unfold State.retarget
    split
    next hrun => exact .setSetpoints hrun (by rwa [hconv]) (Nat.min_le_right ..) (Nat.min_le_right ..)
    next hstop => exact .of_stopped hstop hsafe'
  ramp h hrun := .setSetpoints hrun h.2.1 (Nat.min_le_left ..) (Nat.min_le_left ..)
  stops {s m} _ hm := by
    obtain ⟨hmode, hhigh, hlow, hfeed, hcharge, -⟩ := s.converterStops_conv m
    exact .of_stopped (by rwa [hmode]) fun _ => ⟨hhigh, hlow, hfeed, hcharge⟩
  runs h := .setSetpoints rfl h.2.1 (Nat.zero_le _) (Nat.zero_le _)
  tuned {s c} h hc := by
    obtain ⟨hsafe, hgates, hset⟩ := h
    obtain ⟨hmode, ⟨hfeed, hcharge⟩, hgate, -⟩ := hc
    have hgates' : ¬ (c.gateHigh = true ∧ c.gateLow = true) := by
      obtain ⟨hhigh, hlow⟩ | ⟨hhigh, -⟩ | ⟨-, hboth⟩ := hgate
      · rw [hhigh, hlow]
        exact hgates
      · simp [hhigh]
      · exact hboth
    by_cases hrun : c.mode = .run
    · have hwas : s.conv.mode = .run := by
        obtain hmode | ⟨-, hmode⟩ := hmode
        · rwa [← hmode]
        · exact absurd hrun hmode
      obtain ⟨hf, hch⟩ := hset hwas
      exact .of_running hrun hgates' (hfeed ▸ hf) (hcharge ▸ hch)
    · have hwas : s.conv.mode ≠ .run := by
        obtain hmode | ⟨hmode, -⟩ := hmode
        · rwa [← hmode]
        · exact hmode
      obtain ⟨hhigh, hlow, hf, hch⟩ := hsafe hwas
      refine .of_stopped hrun fun _ => ?_
      obtain ⟨hhigh', hlow'⟩ | ⟨hhigh', hlow'⟩ | ⟨hran, -⟩ := hgate
      · exact ⟨hhigh'.trans hhigh, hlow'.trans hlow, hfeed.trans hf, hcharge.trans hch⟩
      · exact ⟨hhigh', hlow', hfeed.trans hf, hcharge.trans hch⟩
      · exact absurd hran hwas

/-- Settles O53: the targets by their definition; every move of the converter keeps gates and setpoints where they are to be. -/
theorem stepKeepsConverterSafe : Obligations.StepKeepsConverterSafe := by
  refine ⟨fun s => ⟨?_, fun h => ?_, fun h => ?_⟩, fun s t hsafe hgates hset hstep => ?_⟩
  · simp [State.drawsByGrant, State.ownRecordPresent, and_assoc]
  · simp [State.chargeTarget, State.feedTarget, h]
  · simp [State.chargeTarget, State.feedTarget, h]
  · exact step_keeps (P := ConvSafe) (fun s _ h => h) (fun s h => convClosed_safe.same h (by simp) (.of_strap (by simp) (by simp) (by simp)
      (by simp) (by simp) (by simp))) (fun c s h => convClosed_safe.effect h c) ⟨hsafe, hgates, hset⟩ hstep

/-! ### Every command answers, and the strap word stands -/

/-- Settles O2: no command answers another outcome than a next state, and none touches clock or queue. -/
theorem everyCommandAnswersNext : Obligations.EveryCommandAnswersNext := fun c s =>
  ⟨effect c s, exec_eq_effect c s, (effect_sameBut c s).clock, (effect_sameBut c s).pending⟩

/-- Settles O13: the fields are those of the word's bits, and only a start writes the word. -/
theorem strapWordFixedFromStart : Obligations.StrapWordFixedFromStart := by
  refine ⟨fun w => ?_, fun c s t hexec hstart => ?_⟩
  · refine ⟨?_, ?_, ?_, ?_, ?_, ?_⟩
    · simp [strapAddress, Nat.shiftRight_eq_div_pow]
      omega
    · have hfield : (w.extractLsb' 7 3).toNat = w.toNat / 128 % 8 := by simp [Nat.shiftRight_eq_div_pow]
      rw [strapRating, hfield]
      have hlt : w.toNat / 128 % 8 < 8 := by omega
      generalize w.toNat / 128 % 8 = k at hlt
      revert k
      decide
    · have hfield : (w.extractLsb' 5 2).toNat = w.toNat / 32 % 4 := by simp [Nat.shiftRight_eq_div_pow]
      rw [strapCeiling, strapCeilingCode, hfield]
      have hlt : w.toNat / 32 % 4 < 4 := by omega
      generalize w.toNat / 32 % 4 = k at hlt
      revert k
      decide
    · simp [strapProfile, Nat.shiftRight_eq_div_pow]
    · have hbit : w.getLsbD 2 = decide (w.toNat / 4 % 2 = 1) := by
        rw [BitVec.getLsbD, Nat.testBit_eq_decide_div_mod_eq]
      rw [strapChemistry, hbit]
      simp
    · have hfield : (w.extractLsb' 0 2).toNat = w.toNat % 4 := by simp
      rw [strapTestInterval, hfield]
      have hlt : w.toNat % 4 < 4 := by omega
      generalize w.toNat % 4 = k at hlt
      revert k
      decide
  · rw [← effect_of_exec hexec]
    exact effect_strapWord c hstart s

end Sys2Proof.Machine

end

section
/-! ## The battery monitor and its switches -/

namespace Sys2Proof.Machine

/-! ### The test unit in the terminal's moves -/

section
variable (s : State)

/-- A wake asked for (R139) leaves the test unit but for its wake check and the results. -/
@[simp] theorem State.requestWake_test :
    s.requestWake.test.context = s.test.context ∧ s.requestWake.test.gate = s.test.gate ∧ s.requestWake.test.carry = s.test.carry
    ∧ s.requestWake.test.carryCount = s.test.carryCount ∧ s.requestWake.test.schedule = s.test.schedule
    ∧ s.requestWake.test.due = s.test.due ∧ s.requestWake.test.inHand = s.test.inHand := by
  unfold State.requestWake
  dsimp only
  (repeat' split) <;> simp

/-- The terminal's answer to a grant (R139, R144, R145) leaves the test unit but for its wake check and the results. -/
@[simp] theorem State.terminalReacts_test :
    s.terminalReacts.test.context = s.test.context ∧ s.terminalReacts.test.gate = s.test.gate ∧ s.terminalReacts.test.carry = s.test.carry
    ∧ s.terminalReacts.test.carryCount = s.test.carryCount ∧ s.terminalReacts.test.schedule = s.test.schedule
    ∧ s.terminalReacts.test.due = s.test.due ∧ s.terminalReacts.test.inHand = s.test.inHand := by
  unfold State.terminalReacts
  (repeat' split) <;> simp

/-- The answer to a changed grant (R50) leaves the test unit but for its wake check and the results. -/
@[simp] theorem State.grantSeen_test (n : Nat) :
    (s.grantSeen n).test.context = s.test.context ∧ (s.grantSeen n).test.gate = s.test.gate ∧ (s.grantSeen n).test.carry = s.test.carry
    ∧ (s.grantSeen n).test.carryCount = s.test.carryCount ∧ (s.grantSeen n).test.schedule = s.test.schedule
    ∧ (s.grantSeen n).test.due = s.test.due ∧ (s.grantSeen n).test.inHand = s.test.inHand := by
  unfold State.grantSeen
  (repeat' split) <;> simp

/-- The terminal's answer to an outage onset (R143, R144, R147) leaves the test unit but for its wake check and the results. -/
@[simp] theorem State.terminalMainsFail_test :
    s.terminalMainsFail.test.context = s.test.context ∧ s.terminalMainsFail.test.gate = s.test.gate ∧ s.terminalMainsFail.test.carry = s.test.carry
    ∧ s.terminalMainsFail.test.carryCount = s.test.carryCount ∧ s.terminalMainsFail.test.schedule = s.test.schedule
    ∧ s.terminalMainsFail.test.due = s.test.due ∧ s.terminalMainsFail.test.inHand = s.test.inHand := by
  unfold State.terminalMainsFail
  dsimp only
  (repeat' split) <;> simp

/-- The terminal's answer to mains return (R146) leaves the test unit but for its wake check and the results. -/
@[simp] theorem State.terminalMainsReturn_test :
    s.terminalMainsReturn.test.context = s.test.context ∧ s.terminalMainsReturn.test.gate = s.test.gate ∧ s.terminalMainsReturn.test.carry = s.test.carry
    ∧ s.terminalMainsReturn.test.carryCount = s.test.carryCount ∧ s.terminalMainsReturn.test.schedule = s.test.schedule
    ∧ s.terminalMainsReturn.test.due = s.test.due ∧ s.terminalMainsReturn.test.inHand = s.test.inHand := by
  unfold State.terminalMainsReturn
  dsimp only
  (repeat' split) <;> simp

/-- Leaving the start (R137) leaves the test unit but for its wake check and the results. -/
@[simp] theorem State.leaveStart_test :
    s.leaveStart.test.context = s.test.context ∧ s.leaveStart.test.gate = s.test.gate ∧ s.leaveStart.test.carry = s.test.carry
    ∧ s.leaveStart.test.carryCount = s.test.carryCount ∧ s.leaveStart.test.schedule = s.test.schedule
    ∧ s.leaveStart.test.due = s.test.due ∧ s.leaveStart.test.inHand = s.test.inHand := by
  unfold State.leaveStart
  dsimp only
  (repeat' split) <;> simp

/-- The terminal's answer to a band (R139, R144, R145) leaves the test unit but for its wake check and the results. -/
@[simp] theorem State.terminalBandChange_test (old : Band) :
    (s.terminalBandChange old).test.context = s.test.context ∧ (s.terminalBandChange old).test.gate = s.test.gate ∧ (s.terminalBandChange old).test.carry = s.test.carry
    ∧ (s.terminalBandChange old).test.carryCount = s.test.carryCount ∧ (s.terminalBandChange old).test.schedule = s.test.schedule
    ∧ (s.terminalBandChange old).test.due = s.test.due ∧ (s.terminalBandChange old).test.inHand = s.test.inHand := by
  unfold State.terminalBandChange
  (repeat' split) <;> simp

/-- The idle timer at a new level (R143) leaves the test unit but for its wake check and the results. -/
@[simp] theorem State.idleAtDemand_test :
    s.idleAtDemand.test.context = s.test.context ∧ s.idleAtDemand.test.gate = s.test.gate ∧ s.idleAtDemand.test.carry = s.test.carry
    ∧ s.idleAtDemand.test.carryCount = s.test.carryCount ∧ s.idleAtDemand.test.schedule = s.test.schedule
    ∧ s.idleAtDemand.test.due = s.test.due ∧ s.idleAtDemand.test.inHand = s.test.inHand := by
  unfold State.idleAtDemand
  dsimp only
  (repeat' split) <;> simp

/-- The wakes of a new level (R138) leaves the test unit but for its wake check and the results. -/
@[simp] theorem State.demandWakes_test :
    s.demandWakes.test.context = s.test.context ∧ s.demandWakes.test.gate = s.test.gate ∧ s.demandWakes.test.carry = s.test.carry
    ∧ s.demandWakes.test.carryCount = s.test.carryCount ∧ s.demandWakes.test.schedule = s.test.schedule
    ∧ s.demandWakes.test.due = s.test.due ∧ s.demandWakes.test.inHand = s.test.inHand := by
  unfold State.demandWakes
  dsimp only
  (repeat' split) <;> simp

end

/-- A snapshot settles the carry request alone (R151). -/
@[simp] theorem State.snapshot_test (s : State) : s.snapshot.test.context = s.test.context ∧ s.snapshot.test.gate = s.test.gate
    ∧ s.snapshot.test.inHand = s.test.inHand := by
  unfold State.snapshot State.freezeClaims State.countCarry
  dsimp only
  (repeat' split) <;> simp

/-! ### What the commands do to the battery monitor, said once -/

theorem State.chargeLimitNow_le (s : State) : s.chargeLimitNow ≤ 2000 := by
  have hchemistry (c : Chemistry) : chemistryLimit c ≤ 2000 := by cases c <;> decide
  unfold State.chargeLimitNow
  split
  · exact hchemistry _
  · exact Nat.le_trans (Nat.min_le_left ..) (hchemistry _)

/-- The conduction's step stays within its range. -/
theorem conductionStep_le {n : Nat} (h : n ≤ 16) (limit : Nat) (current : Int) : conductionStep n limit current ≤ 16 := by
  unfold conductionStep
  (repeat' split) <;> omega

/-- A battery monitor with new windows and hold, its conduction stepped in a CLOSED switch, band and switches as they were (R127, R129,
R132). -/
structure BatteryState.Filled (b d : BatteryState) : Prop where
  band : d.band = b.band
  discharge : d.discharge = b.discharge
  charge : d.charge = b.charge
  chargeLimit : d.chargeLimit = b.chargeLimit
  opened : b.charge = .opened → d.conduction = b.conduction
  ranges : BatteryRanges b → BatteryRanges d

/-- All that changes of the battery monitor: windows and hold, the charge switch with its limit, the band with the discharge switch (R127 to
R132). -/
inductive BattMoves (b : BatteryState) : BatteryState → Prop where
  | refl : BattMoves b b
  | filled {c d : BatteryState} : BattMoves b c → c.Filled d → BattMoves b d
  | switched {c : BatteryState} {w : Switch} {n limit : Nat} : BattMoves b c → (c.conduction ≤ 16 → n ≤ 16) → limit ≤ 2000 →
      BattMoves b { c with charge := w, conduction := n, chargeLimit := limit }
  | banded {c : BatteryState} (band : Band) : BattMoves b c →
      BattMoves b { c with band := band, discharge := dischargeAfter c.band band c.discharge }

theorem BattMoves.trans {b c d : BatteryState} (h : BattMoves b c) (h' : BattMoves c d) : BattMoves b d := by
  induction h' with
  | refl => exact h
  | filled _ hf ih => exact ih.filled hf
  | switched _ hn hl ih => exact ih.switched hn hl
  | banded band _ ih => exact ih.banded band

theorem BattMoves.ranges {b c : BatteryState} (h : BattMoves b c) (hb : BatteryRanges b) : BatteryRanges c := by
  induction h with
  | refl => exact hb
  | filled _ hf ih => exact hf.ranges ih
  | switched _ hn hl ih => exact ⟨ih.1, ih.2.1, hn ih.2.2.1, hl⟩
  | banded _ _ ih => exact ih

/-- The discharge switch follows the band (R130). -/
theorem BattMoves.discharge {b c : BatteryState} (h : BattMoves b c) (hb : b.discharge = .opened ↔ b.band = .cutoff) :
    c.discharge = .opened ↔ c.band = .cutoff := by
  induction h with
  | refl => exact hb
  | filled _ hf ih => rw [hf.discharge, hf.band, ih]
  | switched _ _ _ ih => exact ih
  | banded band _ ih =>
    unfold dischargeAfter
    grind

theorem State.releaseHold_filled (s : State) : s.batt.Filled s.releaseHold.batt := by
  rw [State.releaseHold_batt]
  split
  · exact ⟨rfl, rfl, rfl, rfl, fun _ => rfl, fun ⟨_, _, hrest⟩ => ⟨Nat.zero_le _, Nat.zero_le _, hrest⟩⟩
  · exact ⟨rfl, rfl, rfl, rfl, fun _ => rfl, id⟩

section
variable {b : BatteryState} {s : State} (h : BattMoves b s.batt)
include h

theorem BattMoves.examineCharge : BattMoves b s.examineCharge.batt := by
  rw [State.examineCharge_batt]
  refine h.switched (fun hn => ?_) s.chargeLimitNow_le
  (repeat' split) <;> omega

theorem BattMoves.setSetpoints (f c : Nat) : BattMoves b (s.setSetpoints f c).batt := by
  unfold State.setSetpoints
  dsimp only
  split
  · exact h
  · exact BattMoves.examineCharge h

theorem BattMoves.endTest : BattMoves b s.endTest.batt := by
  unfold State.endTest
  dsimp only
  rw [(State.terminalTestEnded_frame _).2.2.2.2.2.2.2.2.2.1]
  exact BattMoves.examineCharge (h.filled s.releaseHold_filled)

theorem BattMoves.abortTestDue (v : Verdict) (d : Option Time) : BattMoves b (s.abortTestDue v d).batt := by
  unfold State.abortTestDue
  split
  · exact h
  · simpa using h.endTest

theorem BattMoves.converterStops (m : ConverterMode) : BattMoves b (s.converterStops m).batt := by
  have hoff : BattMoves b s.gatesOff.batt := by simpa using h
  exact BattMoves.setSetpoints (s := { s.gatesOff with conv := { s.gatesOff.conv with mode := m } }) hoff 0 0

theorem BattMoves.converterMainsReturn : BattMoves b s.converterMainsReturn.batt := by
  have hidle : BattMoves b s.enterIdle.batt := h.converterStops .idle
  unfold State.converterMainsReturn
  split
  · exact hidle
  · exact hidle
  · exact hidle
  · exact h
  · exact h

end

/-! ### What the charge switch depends on -/

/-- Two stations alike in all that the charge switch depends on beside the battery monitor (R131, R132). -/
structure SameCharge (s t : State) : Prop where
  mains : t.supply.mains = s.supply.mains
  setpoint : t.conv.chargeSetpoint = s.conv.chargeSetpoint
  test : t.testInFlight = s.testInFlight
  strap : t.supply.strapWord = s.supply.strapWord

theorem SameCharge.of_blocks {s t : State} (hsup : t.supply = s.supply) (hconv : t.conv = s.conv)
    (htest : t.test.context = s.test.context) : SameCharge s t :=
  ⟨by rw [hsup], by rw [hconv], by simp [State.testInFlight, htest], by rw [hsup]⟩

/-- A property of the battery monitor and of what its charge switch depends on, that every move of the monitor keeps, where the switch is
examined again after every change of what it depends on (R131). -/
structure BattClosed (P : State → Prop) : Prop where
  fresh : ∀ {t : State}, t.batt = {} → t.conv.chargeSetpoint = 0 → P t
  same : ∀ {s t : State}, P s → t.batt = s.batt → SameCharge s t → P t
  filled : ∀ {s t : State}, P s → s.batt.Filled t.batt → SameCharge s t → P t
  examined : ∀ {s u : State}, P s → BattMoves s.batt u.batt → P u.examineCharge

section
variable {P : State → Prop} (hP : BattClosed P) {s : State}
include hP

theorem BattClosed.setSetpoints (h : P s) (f c : Nat) : P (s.setSetpoints f c) := by
  unfold State.setSetpoints
  dsimp only
  split
  next hc => exact hP.same h rfl ⟨rfl, hc, rfl, rfl⟩
  next => exact hP.examined h .refl

theorem BattClosed.raiseCarry (h : P s) : P s.raiseCarry :=
  hP.same h (by simp) (.of_blocks (by simp) (by simp) (by simp [State.raiseCarry_test]))

theorem BattClosed.retarget (h : P s) : P s.retarget := by
  unfold State.retarget
  split
  · exact hP.setSetpoints h _ _
  · exact h

/-- The end of a test releases the band hold and has the charge switch examined (R129, R131). -/
theorem BattClosed.endTest (h : P s) : P s.endTest := by
  unfold State.endTest
  dsimp only
  refine hP.same (hP.examined h (u := { s.releaseHold with test := { s.releaseHold.test with
    gate := false, context := none, carry := false, carryCount := 0 } }) (.filled .refl s.releaseHold_filled)) (by simp) ?_
  refine .of_blocks (by simp) (by simp) ?_
  exact (State.endTest_test s).1.trans (by simp)

theorem BattClosed.abortTestDue (h : P s) (v : Verdict) (d : Option Time) : P (s.abortTestDue v d) := by
  unfold State.abortTestDue
  split
  · exact h
  · exact hP.same (hP.endTest h) (by simp) (.of_blocks (by simp) (by simp) (by simp))

theorem BattClosed.abortTest (h : P s) (v : Verdict) : P (s.abortTest v) := hP.abortTestDue h v _

theorem BattClosed.converterStops (h : P s) (m : ConverterMode) : P (s.converterStops m) := by
  have hoff : P { s.gatesOff with conv := { s.gatesOff.conv with mode := m } } := by
    refine hP.same h (by simp) ⟨by simp, ?_, by simp [State.testInFlight], by simp⟩
    unfold State.gatesOff
    split <;> rfl
  exact hP.setSetpoints hoff 0 0

theorem BattClosed.leaveRun (h : P s) (m : ConverterMode) : P (s.leaveRun m) := hP.abortTest (hP.converterStops h m) _

theorem BattClosed.enterRun (h : P s) : P s.enterRun := by
  have hruns : P s.runEntered := hP.setSetpoints (s := { s with conv := { s.conv with mode := .run, command := 0 } }) (hP.same h rfl ⟨rfl, rfl, rfl, rfl⟩) 0 0
  have heq : s.enterRun = if s.pins.riserHigh then s.runEntered.leaveRun .held else s.runEntered := rfl
  rw [heq]
  split
  · exact hP.leaveRun hruns _
  · exact hruns

theorem BattClosed.intervalBoundary (h : P s) : P s.intervalBoundary := by
  rw [State.intervalBoundary_eq]
  (repeat' split)
  · exact hP.enterRun (hP.same h rfl ⟨rfl, rfl, rfl, rfl⟩)
  · exact hP.same h rfl ⟨rfl, rfl, rfl, rfl⟩
  · exact hP.same h rfl ⟨rfl, rfl, rfl, rfl⟩

/-! ### The feed round -/

theorem BattClosed.startTest (h : P s) : P s.startTest := by
  unfold State.startTest
  split
  · exact hP.examined h .refl
  · exact h

theorem BattClosed.closeRound (h : P s) : P s.closeRound := by
  unfold State.closeRound
  dsimp only
  exact hP.retarget (hP.same h (by simp) (.of_blocks (by simp) (by simp) (by simp)))

theorem BattClosed.grantSeen (h : P s) (n : Nat) : P (s.grantSeen n) :=
  hP.same h (by simp) (.of_blocks (by simp) (by simp) (by simp))

/-- The lowered grants, the setpoints after them and the end of the latch interval (R51, R115, R119). -/
theorem BattClosed.applyLowering (h : P s) : P s.applyLowering := by
  unfold State.applyLowering
  dsimp only
  refine hP.grantSeen ?_ _
  have hlow := hP.intervalBoundary (hP.retarget (hP.same h (t := { s with share := { s.share with
    feedGrant := min s.share.feedGrant s.share.computedFeed
    chargeGrant := min s.share.chargeGrant s.share.computedCharge } }) rfl ⟨rfl, rfl, rfl, rfl⟩))
  split
  · exact hlow
  · split
    · exact hP.abortTest hlow _
    · exact hlow

theorem BattClosed.applyRaising (h : P s) : P s.applyRaising := by
  unfold State.applyRaising
  dsimp only
  have hraised := hP.startTest (hP.grantSeen (hP.retarget (hP.same h (t := { s with share := s.share.raised s.ceiling }) rfl
    ⟨rfl, rfl, rfl, rfl⟩)) s.share.feedGrant)
  exact hP.same hraised (by simp) ⟨by simp, by simp, by simp [State.testInFlight, State.raiseCarry_test], by simp⟩

theorem BattClosed.lowered (h : P s) : P s.lowered := by
  unfold State.lowered
  split
  · exact hP.applyLowering (hP.same h rfl ⟨rfl, rfl, rfl, rfl⟩)
  · exact h

theorem BattClosed.runPoints (h : P s) : P s.runPoints := by
  rw [State.runPoints_eq]
  split
  · exact hP.applyRaising (hP.same (hP.lowered h) rfl ⟨rfl, rfl, rfl, rfl⟩)
  · exact hP.lowered h

theorem BattClosed.clearStanding (h : P s) : P s.clearStanding := by
  unfold State.clearStanding
  dsimp only
  exact hP.grantSeen (hP.abortTest (hP.retarget (hP.same h (by simp) ⟨by simp, by simp, by simp [State.testInFlight], by simp⟩)) _) _

theorem BattClosed.enterMuted (h : P s) : P s.enterMuted := hP.clearStanding (hP.same h rfl ⟨rfl, rfl, rfl, rfl⟩)

theorem BattClosed.settlePrevious (h : P s) : P s.settlePrevious := by
  have hclosed : P s.closedIfPending := by
    unfold State.closedIfPending
    split
    · exact hP.closeRound h
    · exact h
  have hround (r : RoundState) : P { s.closedIfPending with round := r } := hP.same hclosed rfl ⟨rfl, rfl, rfl, rfl⟩
  rw [State.settlePrevious_eq]
  dsimp only
  (repeat' split)
  · exact hround _
  · exact hP.applyLowering (hround _)
  · exact hround _

theorem BattClosed.takeReference (h : P s) (o : Opening) : P (s.takeReference o) := by
  have hsettled : P ({ s with line := s.line.dropOpenings } : State).settlePrevious := hP.settlePrevious (hP.same h rfl ⟨rfl, rfl, rfl, rfl⟩)
  have hrealigned (u : State) : u.realign.conv.chargeSetpoint = u.conv.chargeSetpoint := by
    unfold State.realign
    split <;> rfl
  have htaken : P (s.referenceTaken o) := by
    have hadopted : P (s.referenceAdopted o).realign :=
      hP.same hsettled (by simp [State.referenceAdopted])
        ⟨by simp [State.referenceAdopted], by rw [hrealigned]; simp [State.referenceAdopted],
          by simp [State.referenceAdopted, State.testInFlight], by simp [State.referenceAdopted]⟩
    exact hP.same (hP.retarget hadopted) (by simp [State.referenceTaken])
      (.of_blocks (by simp [State.referenceTaken]) (by simp [State.referenceTaken]) (by simp [State.referenceTaken, State.raiseCarry_test]))
  rw [State.takeReference_eq]
  unfold State.pointsPending State.snapshotIfMember
  split
  · exact hP.same htaken (by simp) (.of_blocks (by simp) (by simp) (by simp))
  · exact hP.same htaken rfl ⟨rfl, rfl, rfl, rfl⟩

theorem BattClosed.closedIfDue (h : P s) : P s.closedIfDue := by
  unfold State.closedIfDue
  split
  · exact hP.closeRound h
  · exact h

theorem BattClosed.frameEnded (h : P s) : P s.frameEnded := by
  rw [State.frameEnded_eq]
  split
  · exact hP.same (hP.closedIfDue h) (by simp) (.of_blocks (by simp) (by simp) (by simp))
  · exact hP.closedIfDue h

theorem BattClosed.clash (h : P s) : P s.clash := by
  have hmuted : P s.mutedByClash := by
    unfold State.mutedByClash
    split
    · exact h
    · exact hP.enterMuted h
  rw [State.clash_eq]
  exact hP.same (hP.frameEnded hmuted) (by simp) (.of_blocks (by simp) (by simp) (by simp))

/-- Entry into OFFLINE aborts a test (R103, R156). -/
theorem BattClosed.readConfinement (h : P s) : P s.readConfinement := by
  have hline (l : LineState) : P { s with line := l } := hP.same h rfl ⟨rfl, rfl, rfl, rfl⟩
  unfold State.readConfinement
  split
  · exact h
  · split
    · exact hP.abortTest (hline _) _
    · exact hline _
    · exact hline _

theorem BattClosed.completeFrame (h : P s) : P s.completeFrame := by
  unfold State.completeFrame State.countValid
  exact hP.readConfinement (hP.same h rfl ⟨rfl, rfl, rfl, rfl⟩)

theorem BattClosed.takeError (h : P s) (k : ErrorKind) : P (s.takeError k) := by
  have hcounted : P s.errorCounted := hP.readConfinement (hP.same h rfl ⟨rfl, rfl, rfl, rfl⟩)
  exact hP.same hcounted rfl ⟨rfl, rfl, rfl, rfl⟩

theorem BattClosed.openingCompletes (h : P s) (o : Opening) : P (s.openingCompletes o) := by
  have hc := hP.completeFrame h
  have hsettled {t : State} (ht : P t) : P t.settleRepeat := hP.same ht (by simp) (.of_blocks (by simp) (by simp) (by simp))
  unfold State.openingCompletes
  dsimp only
  (repeat' split)
  · exact hP.clash hc
  · exact hP.frameEnded hc
  · exact hsettled (hP.takeReference (s := { s.completeFrame with
      round := { s.completeFrame.round with participation := .member, joinTimer := none } }) (hP.same hc rfl ⟨rfl, rfl, rfl, rfl⟩) o)
  · exact hsettled (hP.takeReference hc o)

theorem BattClosed.noticeCompletes (h : P s) (n : Notice) : P (s.noticeCompletes n) := by
  have hc := hP.completeFrame h
  unfold State.noticeCompletes
  dsimp only
  split
  · exact hP.clash hc
  · exact hP.frameEnded (hP.retarget (hP.same hc rfl ⟨rfl, rfl, rfl, rfl⟩))

theorem BattClosed.computationCompletes (h : P s) : P s.computationCompletes := by
  have hfinished : P s.finishShare := hP.same h (by simp) (.of_blocks (by simp) (by simp) (by simp))
  have howed : P s.finishShare.owedApplied := by
    unfold State.owedApplied
    split
    · exact hP.applyLowering (hP.same hfinished rfl ⟨rfl, rfl, rfl, rfl⟩)
    · exact hfinished
  rw [State.computationCompletes_eq]
  exact hP.raiseCarry (hP.runPoints howed)

theorem BattClosed.losesReference (h : P s) : P s.losesReference := by
  have hcleared : P (State.clearStanding { s with round := { s.round with referenced := false } }) :=
    hP.clearStanding (hP.same h rfl ⟨rfl, rfl, rfl, rfl⟩)
  exact hP.same hcleared (by simp [State.losesReference]) ⟨by simp [State.losesReference], by simp [State.losesReference],
    by simp [State.losesReference, State.testInFlight], by simp [State.losesReference]⟩

/-! ### Bands, samples, mains, wakes -/

/-- A wake empties the voltage window (R127). -/
theorem BattClosed.wakeUp (h : P s) : P s.wakeUp := by
  refine hP.filled h ?_ ⟨by simp, by simp, by simp [State.testInFlight], by simp⟩
  unfold State.wakeUp
  split
  · rw [(State.settleRepeat_frame _).2.2.2.2.2.2.2.2.2.1]
    exact ⟨rfl, rfl, rfl, rfl, fun _ => rfl, fun ⟨_, _, hrest⟩ => ⟨Nat.zero_le _, Nat.zero_le _, hrest⟩⟩
  · exact ⟨rfl, rfl, rfl, rfl, fun _ => rfl, id⟩

/-- The outage onset has the charge switch examined, once the mains state is written (R131, R162). -/
theorem BattClosed.mainsFails (h : P s) : P s.mainsFails := by
  have hexamined (u : State) (hu : u.batt = s.wakeUp.batt) : P u.examineCharge := hP.examined (hP.wakeUp h) (hu ▸ .refl)
  unfold State.mainsFails
  dsimp only
  exact hP.raiseCarry (hexamined _ (by simp))

theorem BattClosed.mainsReturns (h : P s) : P s.mainsReturns := by
  have hw := hP.wakeUp h
  refine hP.examined hw ?_
  have haborted : BattMoves s.wakeUp.batt (State.abortTestDue (State.terminalMainsReturn { s.wakeUp with
      supply := { s.wakeUp.supply with mains := .present } }) .aborted none).batt :=
    BattMoves.abortTestDue (by simpa using BattMoves.refl) _ _
  exact BattMoves.converterMainsReturn (s := State.testMainsReturn _) haborted

/-- A new band has the charge switch examined (R130, R131). -/
theorem BattClosed.setBand (h : P s) (band : Band) : P (s.setBand band) := by
  have hbanded : BattMoves s.batt (State.testBandChange { s with batt := { s.batt with
      band := band, discharge := dischargeAfter s.batt.band band s.batt.discharge } }).batt := by
    unfold State.testBandChange
    (repeat' split)
    · exact .banded band .refl
    · exact BattMoves.abortTestDue (.banded band .refl) _ _
    · exact .banded band .refl
  have hexamined := hP.examined h hbanded
  unfold State.setBand
  dsimp only
  split
  · exact hP.same hexamined (by simp) ⟨by simp, by simp, by simp [State.testInFlight], by simp⟩
  · exact hP.same hexamined (by simp) (.of_blocks (by simp) (by simp) (by simp))

theorem BattClosed.evaluated (h : P s) : P s.evaluated := by
  have hcounted : P { s with batt := { s.batt with evalCount := 0 } } :=
    hP.filled h ⟨rfl, rfl, rfl, rfl, fun _ => rfl, fun ⟨hwin, _, hrest⟩ => ⟨hwin, Nat.zero_le _, hrest⟩⟩ ⟨rfl, rfl, rfl, rfl⟩
  unfold State.evaluated
  dsimp only
  (repeat' split)
  · exact hcounted
  · exact hcounted
  · exact hcounted
  · exact hP.raiseCarry (hP.setBand hcounted _)

/-- The test unit takes a sample, or ends a test by it (R153 to R155). -/
theorem BattClosed.testSample (h : P s) (voltage : Nat) (current : Int) : P (s.testSample voltage current) := by
  have hgoes {c : TestContext} (hc : s.test.context = some c) (d : TestContext) : P (s.withContext d) :=
    hP.same h (by simp) ⟨by simp, by simp, by simp [State.testInFlight, State.withContext, hc], by simp⟩
  have hcollapse (c : TestContext) : P (s.collapse c) := by
    unfold State.collapse
    refine hP.endTest ?_
    exact hP.same h (by simp) (.of_blocks (by simp) (by simp) (by simp))
  unfold State.testSample
  split
  · exact h
  next c hc =>
    (repeat' split)
    · exact hP.abortTest h _
    · exact hgoes hc _
    · exact h
    · exact hgoes hc _
    · exact hcollapse c
    · exact hgoes hc _
    · exact h
    · exact hgoes hc _
    · exact h

/-- The conduction of an OPEN switch stays 0, that of a CLOSED one steps within its range (R132). -/
theorem BattClosed.offered (h : P s) (tb : TimeBase) (m : Samples) : P (s.offered tb m) := by
  refine hP.filled h ⟨rfl, rfl, rfl, rfl, fun hopen => ?_, fun ⟨hwin, _, hcond, hlimit⟩ => ⟨pushWindow_length_le 256 _ _ hwin, Nat.min_le_left .., ?_, hlimit⟩⟩
    ⟨rfl, rfl, rfl, rfl⟩
  · simp [State.offered, State.batterySample, hopen]
  · dsimp only [State.offered, State.batterySample, State.nextMeasurement]
    split
    · exact conductionStep_le hcond _ _
    · exact hcond

theorem BattClosed.converterSample (h : P s) (voltage current : Nat) : P (s.converterSample voltage current) := by
  have hwindow : P (s.riserSampled voltage) := hP.same h rfl ⟨rfl, rfl, rfl, rfl⟩
  have hregulated : P ((s.riserSampled voltage).regulate current) := hP.same h rfl ⟨rfl, rfl, rfl, rfl⟩
  have hmode : P (s.modeSampled voltage current) := by
    unfold State.modeSampled
    dsimp only
    split
    · (repeat' split)
      · exact hP.enterRun hwindow
      · exact hP.converterStops hwindow _
      · exact hwindow
    · split
      · exact hP.setSetpoints hregulated _ _
      · exact hP.leaveRun hwindow _
    · split
      · exact hP.enterRun hwindow
      · exact hwindow
    · exact hwindow
    · exact hwindow
  rw [State.converterSample_eq]
  exact hP.same hmode rfl ⟨rfl, rfl, rfl, rfl⟩

theorem BattClosed.measured (h : P s) (tb : TimeBase) (m : Samples) : P (s.measured tb m) := by
  rw [State.measured_eq]
  exact hP.raiseCarry (hP.converterSample (hP.testSample (hP.offered h tb m) _ _) _ _)

theorem BattClosed.demandTaken (h : P s) : P s.demandTaken := by
  unfold State.demandTaken
  split
  · have htested : P (State.testAtDemand { s.wakeUp with term := { s.wakeUp.term with demand := s.wakeUp.term.candidate } }) := by
      have hdemand : P { s.wakeUp with term := { s.wakeUp.term with demand := s.wakeUp.term.candidate } } :=
        hP.same (hP.wakeUp h) rfl ⟨rfl, rfl, rfl, rfl⟩
      unfold State.testAtDemand
      split
      · exact hP.abortTest hdemand _
      · exact hP.abortTest hdemand _
      · exact hdemand
      · exact hdemand
    exact hP.raiseCarry (hP.same htested (by simp) (.of_blocks (by simp) (by simp) (by simp)))
  · exact hP.same h rfl ⟨rfl, rfl, rfl, rfl⟩

theorem BattClosed.linkLost (h : P s) : P s.linkLost := by
  refine hP.abortTest ?_ _
  exact hP.same h (by simp) (.of_blocks (by simp) (by simp) (by simp))

theorem BattClosed.testDone (h : P s) (c : TestContext) : P (s.testDone c) := by
  refine hP.raiseCarry ?_
  have htest : (s.endTest.resultOf c).test.context = s.endTest.test.context := by
    unfold State.resultOf
    split <;> simp
  exact hP.same (hP.endTest h) (by simp) (.of_blocks (by simp) (by simp) htest)

theorem BattClosed.settleEnds (h : P s) (c : TestContext) (hc : s.test.context = some c) : P (s.settleEnds c) :=
  hP.filled h ⟨rfl, rfl, rfl, rfl, fun _ => rfl, id⟩ ⟨rfl, rfl, by simp [State.testInFlight, hc, State.settleEnds], rfl⟩

theorem BattClosed.latches (h : P s) : P s.latches := by
  refine hP.leaveRun ?_ _
  exact hP.same h rfl ⟨rfl, rfl, rfl, rfl⟩

/-- A command keeps what the moves of the battery monitor keep. -/
theorem BattClosed.effect (h : P s) (c : Instr) : P (effect c s) := by
  have hask (t : State) (ht : P t) : P t.askSleep :=
    hP.same ht (by simp) ⟨by rw [State.askSleep_supply], by simp, by simp [State.testInFlight], by rw [State.askSleep_supply]⟩
  cases c with
  | supplyDipReset => exact effect_keeps hask rfl h (hP.fresh rfl rfl)
  | start p =>
    simp only [Machine.effect, exec, execStart]
    split
    · exact hP.fresh rfl rfl
    · exact h
  | retainedStoreLoss =>
    simp only [Machine.effect, exec, execRetainedStoreLoss]
    split
    · exact hP.same h rfl ⟨rfl, rfl, rfl, rfl⟩
    · exact h
  | mainsFail => exact effect_keeps hask rfl h (by split; { exact hP.mainsFails h }; { exact h })
  | mainsReturn => exact effect_keeps hask rfl h (by split; { exact hP.mainsReturns h }; { exact h })
  | openingFrame o => exact effect_keeps hask rfl h (by split; { exact hP.openingCompletes h o }; { exact h })
  | notice n => exact effect_keeps hask rfl h (by split; { exact hP.noticeCompletes h n }; { exact h })
  | joinTimerExpiry =>
    refine effect_keeps hask rfl h ?_
    split
    · exact h
    · split
      · exact hP.retarget (hP.same h rfl ⟨rfl, rfl, rfl, rfl⟩)
      · exact h
  | roundTimerLead =>
    refine effect_keeps hask rfl h ?_
    split
    · exact hP.same (hP.wakeUp h) (by simp) ⟨by simp, by simp, by simp [State.testInFlight], by simp⟩
    · exact h
  | lineEdgeWake =>
    refine effect_keeps hask rfl h ?_
    (repeat' split)
    · exact hP.same (hP.wakeUp h) rfl ⟨rfl, rfl, rfl, rfl⟩
    · exact hP.same h rfl ⟨rfl, rfl, rfl, rfl⟩
    · exact h
  | closeEvent => exact effect_keeps hask rfl h (by split; { exact hP.closeRound h }; { exact h })
  | shareComputationComplete => exact effect_keeps hask rfl h (by split; { exact hP.computationCompletes h }; { exact h })
  | loweringPoint =>
    refine effect_keeps hask rfl h ?_
    split
    · split
      · refine hP.raiseCarry (hP.runPoints ?_)
        exact hP.same h rfl ⟨rfl, rfl, rfl, rfl⟩
      · exact hP.same h rfl ⟨rfl, rfl, rfl, rfl⟩
    · exact h
  | raisingPoint =>
    refine effect_keeps hask rfl h ?_
    split
    · split
      · refine hP.raiseCarry (hP.runPoints ?_)
        exact hP.same h rfl ⟨rfl, rfl, rfl, rfl⟩
      · exact hP.same h rfl ⟨rfl, rfl, rfl, rfl⟩
    · exact h
  | roundAgeLimit => exact effect_keeps hask rfl h (by split; { exact hP.losesReference h }; { exact h })
  | frameError =>
    refine effect_keeps hask rfl h ?_
    split
    · exact h
    · exact hP.takeError h _
  | dominantTimeout =>
    refine effect_keeps hask rfl h ?_
    split
    · exact hP.readConfinement (hP.same h rfl ⟨rfl, rfl, rfl, rfl⟩)
    · exact h
  | errorDelimiterEnd =>
    refine effect_keeps hask rfl h ?_
    split
    · exact hP.frameEnded (hP.same h rfl ⟨rfl, rfl, rfl, rfl⟩)
    · exact h
  | lineStuck =>
    refine effect_keeps hask rfl h ?_
    split
    · exact hP.closedIfDue (hP.same h rfl ⟨rfl, rfl, rfl, rfl⟩)
    · exact h
  | startBitEdge =>
    have hedge {u : State} (hu : P u) : P u.edgeBegins := hP.same hu (by simp) (.of_blocks (by simp) (by simp) (by simp))
    refine effect_keeps hask rfl h ?_
    split
    · split
      · exact hedge h
      · exact hedge h
      · split
        · exact hedge (hP.frameEnded (hP.same h rfl ⟨rfl, rfl, rfl, rfl⟩))
        · exact h
      · exact h
      · exact h
    · exact h
  | measurementEvent m =>
    refine effect_keeps hask rfl h ?_
    (repeat' split)
    · exact h
    · exact hP.measured h _ _
    · exact h
  | bandEvaluation => exact effect_keeps hask rfl h (by split; { exact hP.evaluated h }; { exact h })
  | settleEnd =>
    refine effect_keeps hask rfl h ?_
    split
    · exact h
    next c hc =>
      split
      · exact hP.settleEnds h c hc
      · exact h
  | testDone =>
    refine effect_keeps hask rfl h ?_
    (repeat' split)
    · exact h
    · exact hP.testDone h _
    · exact h
  | persistLatch => exact effect_keeps hask rfl h (by split; { exact hP.latches h }; { exact h })
  | intervalTimerExpiry =>
    refine effect_keeps hask rfl h ?_
    split
    · exact hP.raiseCarry (hP.intervalBoundary h)
    · exact h
  | riserHighLatch =>
    refine effect_keeps hask rfl h ?_
    dsimp only
    split
    · refine hP.leaveRun ?_ _
      exact hP.same h rfl ⟨rfl, rfl, rfl, rfl⟩
    · exact hP.same h rfl ⟨rfl, rfl, rfl, rfl⟩
  | demandLevelTaken => exact effect_keeps hask rfl h (by split; { exact hP.demandTaken h }; { exact h })
  | readySeen =>
    refine effect_keeps hask rfl h ?_
    have hwoken : P (if s.pins.ready then s else s.wakeUp) := by split; { exact h }; { exact hP.wakeUp h }
    generalize (if s.pins.ready then s else s.wakeUp) = w at hwoken
    refine hP.raiseCarry ?_
    exact hP.same hwoken (by simp) (.of_blocks (by simp) (by simp) (by simp))
  | readyLost =>
    refine effect_keeps hask rfl h ?_
    have hwoken : P (if s.pins.ready then s.wakeUp else s) := by split; { exact hP.wakeUp h }; { exact h }
    generalize (if s.pins.ready then s.wakeUp else s) = w at hwoken
    have hlost : P { w with pins := { w.pins with ready := false } } := hP.same hwoken rfl ⟨rfl, rfl, rfl, rfl⟩
    dsimp only
    split
    · exact hP.linkLost hlost
    · exact hlost
  | fastOscillatorStable | mainsSenseChange | enterSleep | peakLimit | riserLowGateShut | riserLowGateOpen | railLimit | railHigh
  | switchingPeriodStart | onTimeEnd =>
    refine hP.same h ((effect_sameBut _ s).batt (by simp [touched])) ⟨?_, ?_,
      congrArg (fun t => t.context.isSome) ((effect_sameBut _ s).test (by simp [touched])), effect_strapWord _ (by simp) s⟩
    · refine effect_proj (·.supply.mains) (by simp) rfl ?_
      (repeat' split) <;> simp [State.fallAsleep]
    · refine effect_proj (·.conv.chargeSetpoint) (by simp) rfl ?_
      (repeat' split) <;> simp [State.fallAsleep, State.endOnTime, (ConverterState.beginPeriod_tuned _ _).setpoints]
  | loadEnd | resistanceComputed | testDue | returnFromOffline | bootTimeout | retryWaitExpiry | idleTimerExpiry | keepAliveTime =>
    refine hP.same h ((effect_sameBut _ s).batt (by simp [touched])) ⟨((effect_sameBut _ s).supply_fields (by simp [touched])).2.2.1,
      congrArg ConverterState.chargeSetpoint ((effect_sameBut _ s).conv (by simp [touched])), ?_, effect_strapWord _ (by simp) s⟩
    refine effect_proj State.testInFlight (by simp [State.testInFlight]) rfl ?_
    (repeat' split) <;> simp_all [State.testInFlight, State.raiseCarry_test, State.loadEnds, State.resistanceKnown, State.bootTimesOut, State.handTimeout,
      State.idleExpires, apply_ite State.test, apply_ite TestState.context]
  | _ =>
    exact hP.same h ((effect_sameBut _ s).batt (by simp [touched]))
      ⟨((effect_sameBut _ s).supply_fields (by simp [touched])).2.2.1,
        congrArg ConverterState.chargeSetpoint ((effect_sameBut _ s).conv (by simp [touched])),
        congrArg (fun t => t.context.isSome) ((effect_sameBut _ s).test (by simp [touched])), effect_strapWord _ (by simp) s⟩

end

/-! ### The properties -/

theorem battClosed_ranges : BattClosed fun s => BatteryRanges s.batt where
  fresh hbatt _ := by
    rw [hbatt]
    simp [BatteryRanges]
  same h hbatt _ := by rwa [hbatt]
  filled h hf _ := hf.ranges h
  examined h hmoves := hmoves.examineCharge.ranges h

theorem battClosed_discharge : BattClosed DischargeSafe where
  fresh hbatt _ := by simp [DischargeSafe, hbatt]
  same h hbatt _ := by
    unfold DischargeSafe
    rwa [hbatt]
  filled h hf _ := by
    unfold DischargeSafe
    rw [hf.discharge, hf.band]
    exact h
  examined h hmoves := hmoves.examineCharge.discharge h

/-- An examination puts the charge switch where R131 and R132 have it, whatever stood before. -/
theorem State.examineCharge_chargeSafe (s : State) : ChargeSafe s.examineCharge := by
  have hcloses : s.examineCharge.chargeCloses = s.chargeCloses := State.chargeCloses_congr (by simp) (by simp) (by simp) (by simp)
  have hlimit : s.examineCharge.chargeLimitNow = s.chargeLimitNow := by simp [State.chargeLimitNow, State.chemistry]
  unfold ChargeSafe
  rw [hcloses, hlimit, State.examineCharge_batt]
  cases s.chargeCloses <;> simp

theorem SameCharge.closes {s t : State} (h : SameCharge s t) (hband : t.batt.band = s.batt.band) :
    t.chargeCloses = s.chargeCloses ∧ t.chargeLimitNow = s.chargeLimitNow := by
  obtain ⟨hmains, hset, htest, hstrap⟩ := h
  simp [State.chargeCloses, State.chargePath, State.chargeLimitNow, State.chemistry, hmains, hset, htest, hstrap, hband]

theorem battClosed_charge : BattClosed ChargeSafe where
  fresh hbatt hset := by simp [ChargeSafe, State.chargeCloses, State.chargePath, hbatt, hset]
  same h hbatt hsame := by
    obtain ⟨hcloses, hlimit⟩ := hsame.closes (by rw [hbatt])
    unfold ChargeSafe
    rwa [hcloses, hlimit, hbatt]
  filled h hf hsame := by
    obtain ⟨hcloses, hlimit⟩ := hsame.closes hf.band
    obtain ⟨hswitch, hopen, hclosed⟩ := h
    unfold ChargeSafe
    rw [hcloses, hlimit, hf.charge, hf.chargeLimit]
    exact ⟨hswitch, fun ho => (hf.opened ho).trans (hopen ho), hclosed⟩
  examined _ _ := State.examineCharge_chargeSafe _

/-- Settles O55: the conditions by their definition; the charge switch is examined after every change of what it depends on, and the
discharge switch is written with the band alone. -/
theorem stepKeepsBatterySwitches : Obligations.StepKeepsBatterySwitches := by
  refine ⟨fun s => ?_, fun s => ?_, fun s t hdis hch _ hstep => ⟨?_, ?_⟩⟩
  · simp [State.chargeCloses, State.chargePath, State.testInFlight, and_assoc, or_assoc]
  · unfold State.chargeLimitNow
    cases s.supply.mains <;> cases s.chemistry <;> simp [chemistryLimit]
  · exact step_keeps (fun s _ h => h) (fun s h => battClosed_discharge.same h (by simp) ⟨by simp, by simp, by simp [State.testInFlight], by simp⟩)
      (fun c _ h => battClosed_discharge.effect h c) hdis hstep
  · exact step_keeps (fun s _ h => h) (fun s h => battClosed_charge.same h (by simp) ⟨by simp, by simp, by simp [State.testInFlight], by simp⟩)
      (fun c _ h => battClosed_charge.effect h c) hch hstep

end Sys2Proof.Machine

end

section
/-! ## The battery terminal test -/

namespace Sys2Proof.Machine

/-! ### What the operations do to band, hold and results -/

section
variable (s : State)

/-- Writing the setpoints has the charge switch examined alone (R131). -/
@[simp] theorem State.setSetpoints_batt (f c : Nat) : (s.setSetpoints f c).batt.hold = s.batt.hold ∧ (s.setSetpoints f c).batt.band = s.batt.band
    ∧ (s.setSetpoints f c).batt.window = s.batt.window ∧ (s.setSetpoints f c).batt.evalCount = s.batt.evalCount
    ∧ (s.setSetpoints f c).batt.discharge = s.batt.discharge := by
  unfold State.setSetpoints
  dsimp only
  split <;> simp

@[simp] theorem State.retarget_batt : s.retarget.batt.hold = s.batt.hold ∧ s.retarget.batt.band = s.batt.band
    ∧ s.retarget.batt.window = s.batt.window ∧ s.retarget.batt.evalCount = s.batt.evalCount
    ∧ s.retarget.batt.discharge = s.batt.discharge ∧ s.retarget.conv.mode = s.conv.mode := by
  unfold State.retarget
  split <;> simp

@[simp] theorem State.converterStops_batt (m : ConverterMode) : (s.converterStops m).batt.hold = s.batt.hold
    ∧ (s.converterStops m).batt.band = s.batt.band ∧ (s.converterStops m).batt.window = s.batt.window
    ∧ (s.converterStops m).batt.evalCount = s.batt.evalCount ∧ (s.converterStops m).batt.discharge = s.batt.discharge
    ∧ (s.converterStops m).conv.mode = m := by
  simp [State.converterStops]

/-- A list of results is as it was, or one that has been added to (R158). -/
def ResultsKept (l m : List ResultRecord) : Prop := m = l ∨ m.length ≤ 4

theorem ResultsKept.trans {l m n : List ResultRecord} (h : ResultsKept l m) (h' : ResultsKept m n) : ResultsKept l n := by
  obtain rfl | h' := h'
  · exact h
  · exact .inr h'

theorem ResultsKept.bounded {l m : List ResultRecord} (h : ResultsKept l m) (hl : l.length ≤ 4) : m.length ≤ 4 := by
  obtain rfl | h := h
  · exact hl
  · exact h

theorem ResultsKept.addResult {l : List ResultRecord} (k : ResultKind) (v : Verdict) (x : Option Nat) (b : Band) :
    ResultsKept l (s.addResult k v x b).test.results := .inr (List.length_take_le ..)

end

section
variable {l : List ResultRecord} {s : State} (h : ResultsKept l s.test.results)
include h

theorem ResultsKept.cutoffOff : ResultsKept l s.cutoffOff.test.results := by
  unfold State.cutoffOff
  dsimp only
  (repeat' split) <;> exact h

theorem ResultsKept.powerTests : ResultsKept l s.powerTests.test.results := by
  unfold State.powerTests
  simpa using h.cutoffOff

theorem ResultsKept.enterActive (b : Time) : ResultsKept l (s.enterActive b).test.results := by
  unfold State.enterActive
  dsimp only
  refine ResultsKept.powerTests ?_
  split
  · exact .addResult ..
  · exact h

theorem ResultsKept.bootReady : ResultsKept l s.bootReady.test.results := by
  unfold State.bootReady
  (repeat' split)
  · exact h
  · exact h.enterActive _
  · exact h

theorem ResultsKept.enterBooting : ResultsKept l s.enterBooting.test.results := ResultsKept.bootReady h

theorem ResultsKept.makeWake : ResultsKept l s.makeWake.test.results := by
  unfold State.makeWake
  split <;> exact ResultsKept.enterBooting h

theorem ResultsKept.requestWake : ResultsKept l s.requestWake.test.results := by
  unfold State.requestWake
  split
  · exact h.makeWake
  · exact h

theorem ResultsKept.regateWake : ResultsKept l s.regateWake.test.results := by
  unfold State.regateWake
  split
  · exact h.makeWake
  · exact h

theorem ResultsKept.terminalReacts : ResultsKept l s.terminalReacts.test.results := by
  unfold State.terminalReacts
  split
  · exact h.powerTests.regateWake
  · exact h

theorem ResultsKept.grantSeen (n : Nat) : ResultsKept l (s.grantSeen n).test.results := by
  unfold State.grantSeen
  split
  · exact h
  · exact h.terminalReacts

theorem ResultsKept.terminalTestEnded : ResultsKept l s.terminalTestEnded.test.results := by
  unfold State.terminalTestEnded
  dsimp only
  refine ResultsKept.regateWake ?_
  split <;> exact h

theorem ResultsKept.endTest : ResultsKept l s.endTest.test.results := by
  unfold State.endTest
  exact ResultsKept.terminalTestEnded (by simpa using h)

theorem ResultsKept.terminalMainsFail : ResultsKept l s.terminalMainsFail.test.results := by
  unfold State.terminalMainsFail
  dsimp only
  split
  · exact ResultsKept.terminalReacts h
  · exact h

theorem ResultsKept.terminalMainsReturn : ResultsKept l s.terminalMainsReturn.test.results := by
  unfold State.terminalMainsReturn
  dsimp only
  (repeat' split)
  · exact ResultsKept.enterBooting h
  · exact ResultsKept.enterBooting h
  · exact ResultsKept.enterBooting h
  · exact ResultsKept.enterBooting h
  · exact ResultsKept.enterBooting h
  · exact h
  · exact h
  · exact h
  · exact h

theorem ResultsKept.leaveStart : ResultsKept l s.leaveStart.test.results := by
  unfold State.leaveStart
  dsimp only
  (repeat' split)
  · exact ResultsKept.enterBooting h
  · exact h
  · exact h
  · exact ResultsKept.requestWake h
  · exact h

theorem ResultsKept.terminalBandChange (b : Band) : ResultsKept l (s.terminalBandChange b).test.results := by
  unfold State.terminalBandChange
  refine ResultsKept.terminalReacts ?_
  split <;> exact h

theorem ResultsKept.idleAtDemand : ResultsKept l s.idleAtDemand.test.results := by
  unfold State.idleAtDemand
  (repeat' split) <;> exact h

theorem ResultsKept.demandWakes : ResultsKept l s.demandWakes.test.results := by
  unfold State.demandWakes
  dsimp only
  (repeat' split)
  · exact h
  · exact h.requestWake
  · exact h
  · exact h.requestWake
  · exact ResultsKept.requestWake h
  · exact h
  · exact h
  · exact ResultsKept.makeWake h
  · exact h
  · exact h
  · exact h

end

/-! ### What the commands do to a test in flight, said once -/

/-- The counts of the test unit lie in their ranges (R149, R151, R158). -/
def TestRanges (t : TestState) : Prop := t.carryCount ≤ 30 ∧ EventsInPhase t.context ∧ t.results.length ≤ 4

/-- Pulse-load gate and band hold stand as the phase has them (R129, R149). -/
def TestShape (s : State) : Prop :=
  (s.test.gate = true ↔ s.testPhase = some .load) ∧ (s.batt.hold = true ↔ s.testPhase = some .load ∨ s.testPhase = some .relax)

/-- A test in flight finds its band and every condition whose loss aborts it (R130, R156). -/
def TestHolds (s : State) : Prop :=
  s.testInFlight = true → s.batt.band.testable = true ∧ s.round.participation = .member ∧ s.round.referenced = true
    ∧ s.line.confinement ≠ .offline ∧ s.supply.mains = .absent ∧ s.conv.mode = .run

theorem testSafe_and_conditions_iff (s : State) : TestSafe s ∧ TestConditions s ↔ TestShape s ∧ TestHolds s := by
  unfold TestSafe TestConditions TestShape TestHolds
  grind

/-- No test in flight, nor anything of one left over. -/
def TestIdle (s : State) : Prop := s.test.context = none ∧ s.test.gate = false ∧ s.batt.hold = false

theorem TestIdle.shape {s : State} (h : TestIdle s) : TestShape s := by
  obtain ⟨hcontext, hgate, hhold⟩ := h
  simp [TestShape, State.testPhase, hcontext, hgate, hhold]

theorem TestIdle.holds {s : State} (h : TestIdle s) : TestHolds s := by
  simp [TestHolds, State.testInFlight, h.1]

/-- From one state to another the test unit keeps its counts, a test in flight its shape, and its conditions or it is ended. -/
structure TestFollows (s t : State) : Prop where
  ranges : TestRanges s.test → TestRanges t.test
  shape : TestShape s → TestShape t
  holds : TestShape s → TestHolds s → TestHolds t

theorem TestFollows.refl (s : State) : TestFollows s s := ⟨id, id, fun _ => id⟩

theorem TestFollows.trans {r s t : State} (h : TestFollows r s) (h' : TestFollows s t) : TestFollows r t :=
  ⟨h'.ranges ∘ h.ranges, h'.shape ∘ h.shape, fun hshape hholds => h'.holds (h.shape hshape) (h.holds hshape hholds)⟩

/-- Nothing of a test is left. -/
theorem TestFollows.of_idle {s t : State} (hranges : TestRanges s.test → TestRanges t.test) (hidle : TestShape s → TestIdle t) : TestFollows s t :=
  ⟨hranges, fun h => (hidle h).shape, fun h _ => (hidle h).holds⟩

/-- The conditions of a test in one state give those in another. -/
structure CondsKept (s t : State) : Prop where
  band : t.batt.band = s.batt.band
  member : s.round.participation = .member → t.round.participation = .member
  referenced : s.round.referenced = true → t.round.referenced = true
  confinement : s.line.confinement ≠ .offline → t.line.confinement ≠ .offline
  mains : s.supply.mains = .absent → t.supply.mains = .absent
  mode : s.conv.mode = .run → t.conv.mode = .run

/-- The same test goes on. -/
theorem TestFollows.of_same {s t : State} (hcontext : t.test.context = s.test.context) (hgate : t.test.gate = s.test.gate)
    (hhold : t.batt.hold = s.batt.hold) (hranges : TestRanges s.test → TestRanges t.test) (hconds : CondsKept s t) : TestFollows s t := by
  refine ⟨hranges, ?_, fun _ => ?_⟩
  · simp [TestShape, State.testPhase, hcontext, hgate, hhold]
  · intro h ht
    obtain ⟨hband, hmember, href, hconf, hmains, hmode⟩ := h (by simpa [State.testInFlight, hcontext] using ht)
    exact ⟨hconds.band ▸ hband, hconds.member hmember, hconds.referenced href, hconds.confinement hconf, hconds.mains hmains, hconds.mode hmode⟩

theorem CondsKept.of_blocks {s t : State} (hbatt : t.batt.band = s.batt.band) (hround : t.round = s.round) (hline : t.line = s.line)
    (hsup : t.supply = s.supply) (hconv : t.conv.mode = s.conv.mode) : CondsKept s t :=
  ⟨hbatt, by rw [hround]; exact id, by rw [hround]; exact id, by rw [hline]; exact id, by rw [hsup]; exact id, by rw [hconv]; exact id⟩

theorem TestRanges.of_kept {s t : TestState} (h : TestRanges s) (hcontext : t.context = s.context) (hcount : t.carryCount = s.carryCount)
    (hresults : ResultsKept s.results t.results) : TestRanges t := by
  obtain ⟨hcarry, hevents, hlist⟩ := h
  exact ⟨hcount ▸ hcarry, hcontext ▸ hevents, hresults.bounded hlist⟩

/-- A move of another block that leaves the test and its conditions. -/
theorem TestFollows.of_frame {s t : State} (htest : t.test = s.test) (hhold : t.batt.hold = s.batt.hold) (hconds : CondsKept s t) :
    TestFollows s t :=
  .of_same (by rw [htest]) (by rw [htest]) hhold (by rw [htest]; exact id) hconds

/-- A move of the terminal interface. -/
theorem TestFollows.of_terminal {s t : State} (hcontext : t.test.context = s.test.context) (hgate : t.test.gate = s.test.gate)
    (hcount : t.test.carryCount = s.test.carryCount) (hresults : ResultsKept s.test.results t.test.results) (hbatt : t.batt = s.batt)
    (hround : t.round = s.round) (hline : t.line = s.line) (hsup : t.supply = s.supply) (hconv : t.conv = s.conv) : TestFollows s t :=
  .of_same hcontext hgate (by rw [hbatt]) (fun h => h.of_kept hcontext hcount hresults)
    (.of_blocks (by rw [hbatt]) hround hline hsup (by rw [hconv]))

/-- The start of an own frame leaves the confinement state. -/
@[simp] theorem State.offer_confinement (s : State) : s.offer.line.confinement = s.line.confinement := by
  rw [State.offer_line]
  split <;> rfl

/-- A round timer's expiry leaves the confinement state. -/
theorem State.handleExpiry_confinement (s : State) : s.handleExpiry.line.confinement = s.line.confinement := by
  rw [State.handleExpiry_line]
  split
  · rw [State.offer_confinement]
    exact (s.line.placeOpening_sameDrive _).confinement
  · rfl

/-- A snapshot counts the carry request within its range (R151). -/
theorem TestRanges.snapshot {s : State} (h : TestRanges s.test) : TestRanges s.snapshot.test := by
  obtain ⟨hcarry, hevents, hlist⟩ := h
  unfold State.snapshot State.freezeClaims State.countCarry
  dsimp only
  (repeat' split)
  · exact ⟨Nat.zero_le _, hevents, (ResultsKept.addResult s .pulse .deferred none s.batt.band).bounded hlist⟩
  next hfew => exact ⟨by dsimp only; omega, hevents, hlist⟩
  · exact ⟨hcarry, hevents, hlist⟩

/-! ### Ends and aborts -/

/-- A state that a test's end or abort can be taken from: the test unit and the hold of the state before, its conditions perhaps lost. -/
structure TestFrom (r s : State) : Prop where
  ranges : TestRanges r.test → TestRanges s.test
  shape : TestShape r → TestShape s

theorem TestFollows.toFrom {r s : State} (h : TestFollows r s) : TestFrom r s := ⟨h.ranges, h.shape⟩

theorem TestFrom.of_frame {r s t : State} (h : TestFrom r s) (htest : t.test = s.test) (hhold : t.batt.hold = s.batt.hold) : TestFrom r t := by
  obtain ⟨hranges, hshape⟩ := h
  refine ⟨by rw [htest]; exact hranges, fun hr => ?_⟩
  have hs := hshape hr
  unfold TestShape State.testPhase at *
  rwa [htest, hhold]

theorem State.endTest_idle (s : State) : TestIdle s.endTest :=
  ⟨(State.endTest_test s).1, (State.endTest_test s).2.1, (State.endTest_batt s).1⟩

theorem TestRanges.endTest {s : State} (h : TestRanges s.test) : TestRanges s.endTest.test := by
  obtain ⟨-, -, hlist⟩ := h
  obtain ⟨hcontext, -, -, hcount, -⟩ := State.endTest_test s
  exact ⟨by omega, by simp [hcontext, EventsInPhase], (ResultsKept.endTest (.inl rfl)).bounded hlist⟩

/-- An abort leaves nothing of a test (R156). -/
theorem TestShape.abortTestDue_idle {s : State} (h : TestShape s) (v : Verdict) (d : Option Time) : TestIdle (s.abortTestDue v d) := by
  unfold State.abortTestDue
  split
  next hnone =>
    simp only [TestShape, State.testPhase, hnone] at h
    exact ⟨hnone, by simpa using h.1, by simpa using h.2⟩
  next => simpa [TestIdle] using s.endTest_idle

theorem TestRanges.abortTestDue {s : State} (h : TestRanges s.test) (v : Verdict) (d : Option Time) :
    TestRanges (s.abortTestDue v d).test := by
  unfold State.abortTestDue
  split
  · exact h
  · exact h.endTest.of_kept rfl rfl (.addResult ..)

section
variable {r s : State} (h : TestFrom r s)
include h

/-- An abort leaves nothing of a test, and a record of the one in flight (R156). -/
theorem TestFrom.abortTestDue (v : Verdict) (d : Option Time) : TestFollows r (s.abortTestDue v d) :=
  .of_idle (fun hr => (h.ranges hr).abortTestDue v d) fun hr => (h.shape hr).abortTestDue_idle v d

/-- A record written, and the next due time with it. -/
theorem TestFrom.recorded (k : ResultKind) (v : Verdict) (x : Option Nat) (b : Band) (d : Option Time) :
    TestFrom r ((s.addResult k v x b).setDue d) :=
  ⟨fun hr => (h.ranges hr).of_kept rfl rfl (.addResult ..), h.shape⟩

theorem TestFrom.abortTest (v : Verdict) : TestFollows r (s.abortTest v) := h.abortTestDue v _

theorem TestFrom.endTest : TestFollows r s.endTest := .of_idle (fun hr => (h.ranges hr).endTest) fun _ => s.endTest_idle

/-- The converter leaves RUN: its stop takes a condition, and the test is aborted (R113, R156). -/
theorem TestFrom.leaveRun (m : ConverterMode) : TestFollows r (s.leaveRun m) :=
  (h.of_frame (t := s.converterStops m) (by simp) (by simp)).abortTest _

end

section
variable {r s : State} (h : TestFollows r s)
include h

theorem TestFollows.raiseCarry : TestFollows r s.raiseCarry :=
  h.trans (.of_same (by simp [State.raiseCarry_test]) (by simp [State.raiseCarry_test]) (by simp)
    (fun hs => hs.of_kept (by simp [State.raiseCarry_test]) (by simp [State.raiseCarry_test]) (.inl (by simp [State.raiseCarry_test])))
    (.of_blocks (by simp) (by simp) (by simp) (by simp) (by simp)))

theorem TestFollows.grantSeen (n : Nat) : TestFollows r (s.grantSeen n) :=
  h.trans (.of_terminal (by simp) (by simp) (by simp) (ResultsKept.grantSeen (.inl rfl) n) (by simp) (by simp) (by simp) (by simp) (by simp))

theorem TestFollows.retarget : TestFollows r s.retarget :=
  h.trans (.of_frame (by simp) (by simp) (.of_blocks (by simp) (by simp) (by simp) (by simp) (by simp)))

theorem TestFollows.runEntered : TestFollows r s.runEntered :=
  h.trans (.of_frame (by simp [State.runEntered]) (by simp [State.runEntered]) ⟨by simp [State.runEntered], by simp [State.runEntered],
    by simp [State.runEntered], by simp [State.runEntered], by simp [State.runEntered], by simp [State.runEntered]⟩)

theorem TestFollows.enterRun : TestFollows r s.enterRun := by
  have heq : s.enterRun = if s.pins.riserHigh then s.runEntered.leaveRun .held else s.runEntered := rfl
  rw [heq]
  split
  · exact h.runEntered.toFrom.leaveRun _
  · exact h.runEntered

/-- A state of the converter other than RUN that is left for another: no test is in flight there. -/
theorem TestFollows.of_stopped {t : State} (htest : t.test = s.test) (hhold : t.batt.hold = s.batt.hold) (hmode : s.conv.mode ≠ .run) :
    TestFollows r t := by
  have hfrom := h.toFrom.of_frame htest hhold
  refine ⟨hfrom.ranges, hfrom.shape, fun hshape hholds hin => ?_⟩
  have hs := h.holds hshape hholds (by simpa [State.testInFlight, htest] using hin)
  exact absurd hs.2.2.2.2.2 hmode

theorem TestFollows.intervalBoundary : TestFollows r s.intervalBoundary := by
  rw [State.intervalBoundary_eq]
  split
  next hheld =>
    split
    · refine TestFollows.enterRun ?_
      exact h.trans (.of_frame rfl rfl (.of_blocks rfl rfl rfl rfl rfl))
    · exact h.of_stopped rfl rfl (by simp [hheld])
  next => exact h.trans (.of_frame rfl rfl (.of_blocks rfl rfl rfl rfl rfl))

/-! ### The feed round -/

/-- A test starts on all its conditions (R152). -/
theorem TestFollows.startTest : TestFollows r s.startTest := by
  unfold State.startTest
  split
  next hstarts =>
    simp only [State.testStarts, Bool.and_eq_true, decide_eq_true_eq, Option.isNone_iff_eq_none] at hstarts
    obtain ⟨⟨⟨⟨⟨⟨⟨⟨⟨⟨⟨-, hnone⟩, -⟩, -⟩, -⟩, hband⟩, -⟩, hrun⟩, hout⟩, hmember⟩, href⟩, hon⟩ := hstarts
    refine h.trans ⟨fun ⟨_, _, hlist⟩ => ?_, fun hshape => ?_, fun _ _ _ => ?_⟩
    · rw [(State.examineCharge_frame _).2.2.2.2.2.2.2.2.2.2.1]
      exact ⟨Nat.zero_le _, by simp [EventsInPhase, State.newContext], hlist⟩
    · simp only [TestShape, State.testPhase, hnone] at hshape
      simpa [TestShape, State.testPhase, State.newContext] using hshape
    · simpa [hband, hmember, href, hrun, State.inOutage] using ⟨hon, by simpa [State.inOutage] using hout⟩
  next => exact h

theorem TestFollows.closeRound : TestFollows r s.closeRound :=
  h.trans (.of_frame (by simp) (by simp [State.closeRound]) ⟨by simp [State.closeRound], by simp, by simp,
    by simp [LineState.dropNotices, LineState.dropTo, LineState.withQueue], by simp, by simp [State.closeRound]⟩)

theorem TestFollows.applyLowering : TestFollows r s.applyLowering := by
  unfold State.applyLowering
  dsimp only
  refine TestFollows.grantSeen ?_ _
  have hshare : TestFollows r { s with share := { s.share with
    feedGrant := min s.share.feedGrant s.share.computedFeed
    chargeGrant := min s.share.chargeGrant s.share.computedCharge } } := h.trans (.of_frame rfl rfl (.of_blocks rfl rfl rfl rfl rfl))
  have hlow := hshare.retarget.intervalBoundary
  (repeat' split)
  · exact hlow
  · exact hlow.toFrom.abortTest _
  · exact hlow

theorem TestFollows.applyRaising : TestFollows r s.applyRaising := by
  unfold State.applyRaising
  dsimp only
  have hshare : TestFollows r { s with share := s.share.raised s.ceiling } := h.trans (.of_frame rfl rfl (.of_blocks rfl rfl rfl rfl rfl))
  refine ((hshare.retarget.grantSeen s.share.feedGrant).startTest.raiseCarry).trans ?_
  exact .of_frame (by simp) (by simp) ⟨by simp, by simp, by simp, by simp, by simp, by simp⟩

theorem TestFollows.withRound (round : RoundState) (hp : round.participation = s.round.participation) (hr : round.referenced = s.round.referenced) :
    TestFollows r { s with round := round } :=
  h.trans (.of_frame rfl rfl ⟨rfl, by rw [hp]; exact id, by rw [hr]; exact id, id, id, id⟩)

theorem TestFollows.lowered : TestFollows r s.lowered := by
  unfold State.lowered
  split
  · refine TestFollows.applyLowering ?_
    exact h.withRound _ rfl rfl
  · exact h

theorem TestFollows.runPoints : TestFollows r s.runPoints := by
  rw [State.runPoints_eq]
  split
  · refine TestFollows.applyRaising ?_
    exact h.lowered.withRound _ rfl rfl
  · exact h.lowered

end

/-- What entry into MUTED and the loss of the reference share aborts a test (R16, R19, R156). -/
theorem TestFrom.clearStanding {r s : State} (h : TestFrom r s) : TestFollows r s.clearStanding := by
  unfold State.clearStanding
  dsimp only
  refine TestFollows.grantSeen (TestFrom.abortTest ?_ _) _
  exact h.of_frame (by simp) (by simp)

theorem TestFrom.losesReference {r s : State} (h : TestFrom r s) : TestFollows r s.losesReference := by
  have hcleared : TestFollows r (State.clearStanding { s with round := { s.round with referenced := false } }) :=
    TestFrom.clearStanding (h.of_frame rfl rfl)
  refine hcleared.trans (.of_frame (by simp [State.losesReference]) (by simp [State.losesReference]) ⟨?_, ?_, ?_, ?_, ?_, ?_⟩)
  all_goals simp [State.losesReference]

section
variable {r s : State} (h : TestFollows r s)
include h

theorem TestFollows.enterMuted : TestFollows r s.enterMuted := by
  refine TestFrom.clearStanding ?_
  exact h.toFrom.of_frame rfl rfl

/-- A line controller that goes on in its confinement state, or comes out of OFFLINE. -/
theorem TestFollows.withLine (l : LineState) (hl : s.line.confinement ≠ .offline → l.confinement ≠ .offline) : TestFollows r { s with line := l } :=
  h.trans (.of_frame rfl rfl ⟨rfl, id, id, hl, id, id⟩)

theorem TestFollows.closedIfPending : TestFollows r s.closedIfPending := by
  unfold State.closedIfPending
  split
  · exact h.closeRound
  · exact h

theorem TestFollows.settlePrevious : TestFollows r s.settlePrevious := by
  have hround (round : RoundState) (hp : round.participation = s.closedIfPending.round.participation)
      (hr : round.referenced = s.closedIfPending.round.referenced) : TestFollows r { s.closedIfPending with round := round } :=
    h.closedIfPending.withRound round hp hr
  rw [State.settlePrevious_eq]
  dsimp only
  (repeat' split)
  · exact hround _ rfl rfl
  · refine TestFollows.applyLowering ?_
    exact hround _ rfl rfl
  · exact hround _ rfl rfl

/-- A reference makes the station referenced, and counts the carry request at its snapshot (R9, R151). -/
theorem TestFollows.takeReference (o : Opening) : TestFollows r (s.takeReference o) := by
  have hsettled : TestFollows r ({ s with line := s.line.dropOpenings } : State).settlePrevious := by
    refine TestFollows.settlePrevious ?_
    exact h.withLine _ id
  have hadopted : TestFollows r (s.referenceAdopted o) := hsettled.trans (.of_frame rfl rfl ⟨rfl, id, fun _ => rfl, id, id, id⟩)
  have hrealigned : TestFollows r (s.referenceAdopted o).realign := by
    refine hadopted.trans (.of_frame (by simp) (by simp) (.of_blocks (by simp) (by simp) (by simp) (by simp) ?_))
    unfold State.realign
    split <;> rfl
  have htaken : TestFollows r (s.referenceTaken o) := hrealigned.retarget.raiseCarry
  rw [State.takeReference_eq]
  unfold State.pointsPending
  refine TestFollows.withRound ?_ _ rfl rfl
  unfold State.snapshotIfMember
  split
  · refine htaken.trans (.of_same (by simp) (by simp) (by simp) TestRanges.snapshot ⟨by simp, by simp, by simp, ?_, by simp, by simp⟩)
    rw [State.snapshot_line]
    exact id
  · exact htaken

theorem TestFollows.closedIfDue : TestFollows r s.closedIfDue := by
  unfold State.closedIfDue
  split
  · exact h.closeRound
  · exact h

theorem TestFollows.handleExpiry : TestFollows r s.handleExpiry := by
  refine h.trans (.of_frame (by simp) (by simp) ⟨by simp, by simp, by simp, ?_, by simp, by simp⟩)
  rw [s.handleExpiry_confinement]
  exact id

theorem TestFollows.frameEnded : TestFollows r s.frameEnded := by
  rw [State.frameEnded_eq]
  split
  · exact h.closedIfDue.handleExpiry
  · exact h.closedIfDue

theorem TestFollows.delimiterEnds : TestFollows r s.delimiterEnds := by
  refine TestFollows.frameEnded ?_
  refine h.withLine _ ?_
  split <;> exact id

theorem TestFollows.settleRepeat : TestFollows r s.settleRepeat :=
  h.trans (.of_frame (by simp) (by simp) (.of_blocks (by simp) (by simp) (by simp) (by simp) (by simp)))

theorem TestFollows.requestStatus : TestFollows r s.requestStatus :=
  h.trans (.of_frame (by simp) (by simp) ⟨by simp, by simp, by simp, by simp, by simp, by simp⟩)

theorem TestFollows.clash : TestFollows r s.clash := by
  have hmuted : TestFollows r s.mutedByClash := by
    unfold State.mutedByClash
    split
    · exact h
    · exact h.enterMuted
  rw [State.clash_eq]
  exact hmuted.frameEnded.settleRepeat

/-- Entry into OFFLINE aborts a test (R103, R156). -/
theorem TestFollows.readConfinement : TestFollows r s.readConfinement := by
  unfold State.readConfinement
  split
  · exact h
  · split
    · refine TestFrom.abortTest ?_ _
      exact h.toFrom.of_frame rfl rfl
    · exact h.withLine _ (by simp)
    · exact h.withLine _ (by simp)

theorem TestFollows.completeFrame : TestFollows r s.completeFrame := by
  unfold State.completeFrame State.countValid
  refine TestFollows.readConfinement ?_
  refine h.trans (.of_frame rfl rfl ⟨rfl, id, id, ?_, id, id⟩)
  dsimp only
  (repeat' split) <;> exact id

theorem TestFollows.takeError (k : ErrorKind) : TestFollows r (s.takeError k) := by
  have hcounted : TestFollows r s.errorCounted := by
    refine TestFollows.readConfinement ?_
    refine h.withLine _ ?_
    cases s.line.role <;> exact id
  exact hcounted.withLine _ id

theorem TestFollows.openingCompletes (o : Opening) : TestFollows r (s.openingCompletes o) := by
  have hc := h.completeFrame
  unfold State.openingCompletes
  dsimp only
  (repeat' split)
  · exact hc.clash
  · exact hc.frameEnded
  · refine (TestFollows.takeReference ?_ o).settleRepeat
    exact hc.trans (.of_frame rfl rfl ⟨rfl, fun _ => rfl, id, id, id, id⟩)
  · exact (hc.takeReference o).settleRepeat

theorem TestFollows.noticeCompletes (n : Notice) : TestFollows r (s.noticeCompletes n) := by
  have hc := h.completeFrame
  unfold State.noticeCompletes
  dsimp only
  split
  · exact hc.clash
  · refine (TestFollows.retarget ?_).frameEnded
    exact hc.trans (.of_frame rfl rfl (.of_blocks rfl rfl rfl rfl rfl))

theorem TestFollows.computationCompletes : TestFollows r s.computationCompletes := by
  have hfinished : TestFollows r s.finishShare :=
    h.trans (.of_frame (by simp) (by simp) (.of_blocks (by simp) (by simp) (by simp) (by simp) (by simp)))
  have howed : TestFollows r s.finishShare.owedApplied := by
    unfold State.owedApplied
    split
    · refine TestFollows.applyLowering ?_
      exact hfinished.withRound _ rfl rfl
    · exact hfinished
  rw [State.computationCompletes_eq]
  exact howed.runPoints.raiseCarry

/-! ### Bands, samples, mains, wakes -/

theorem TestFollows.wakeUp : TestFollows r s.wakeUp := by
  refine h.trans (.of_frame (by simp) ?_ ⟨?_, by simp, by simp, ?_, by simp, by simp⟩)
  all_goals
    unfold State.wakeUp
    split <;> simp

theorem TestFollows.mainsFails : TestFollows r s.mainsFails := by
  unfold State.mainsFails
  dsimp only
  refine TestFollows.raiseCarry ?_
  refine h.wakeUp.trans (.of_same (by simp) (by simp) (by simp) (fun hs => hs.of_kept (by simp) (by simp) ?_)
    ⟨by simp, by simp, by simp, by simp, by simp, by simp⟩)
  simpa using ResultsKept.terminalMainsFail (.inl (by simp))

/-- Mains return aborts a test before the converter is stopped (R156, R162). -/
theorem TestFollows.mainsReturns : TestFollows r s.mainsReturns := by
  have hpresent : TestFrom r (State.terminalMainsReturn { s.wakeUp with supply := { s.wakeUp.supply with mains := .present } }) := by
    have hwoken := h.wakeUp.toFrom
    refine ⟨fun hr => (hwoken.ranges hr).of_kept (by simp) (by simp) ?_, fun hr => ?_⟩
    · exact ResultsKept.terminalMainsReturn (.inl rfl)
    · simpa [TestShape, State.testPhase] using hwoken.shape hr
  have htest (u : State) : u.converterMainsReturn.test = u.test ∧ u.converterMainsReturn.batt.hold = u.batt.hold := by
    unfold State.converterMainsReturn
    split <;> simp [State.enterIdle]
  unfold State.mainsReturns
  refine .of_idle (fun hr => ?_) fun hr => ?_
  · obtain ⟨-, hevents, hlist⟩ := (hpresent.ranges hr).abortTestDue .aborted none
    rw [(State.examineCharge_frame _).2.2.2.2.2.2.2.2.2.2.1, (htest _).1]
    exact ⟨Nat.zero_le _, hevents, hlist⟩
  · have hidle := (hpresent.shape hr).abortTestDue_idle .aborted none
    simpa [TestIdle, htest, State.testMainsReturn] using hidle

/-- A new band aborts a test in SETTLE that it does not allow; in the later phases the band is held (R129, R156). -/
theorem TestFollows.testBandChange (band : Band) (switch : Switch) (hhold : s.batt.hold = false) :
    TestFollows r (State.testBandChange { s with batt := { s.batt with band := band, discharge := switch } }) := by
  have hfrom : TestFrom r { s with batt := { s.batt with band := band, discharge := switch } } := h.toFrom.of_frame rfl rfl
  unfold State.testBandChange
  split
  next hnone => exact ⟨hfrom.ranges, hfrom.shape, fun _ _ ht => by simp [State.testInFlight, show s.test.context = none from hnone] at ht⟩
  next c hc =>
    split
    next => exact hfrom.abortTest _
    next hgood =>
      refine ⟨hfrom.ranges, hfrom.shape, fun hshape hholds ht => ?_⟩
      obtain ⟨-, hlater⟩ := h.shape hshape
      have hsettle : c.phase = .settle := by
        have hphase : s.testPhase = some c.phase := by simp [State.testPhase, show s.test.context = some c from hc]
        rw [hhold, hphase] at hlater
        cases hp : c.phase <;> simp_all
      exact ⟨by simpa [hsettle] using hgood, (h.holds hshape hholds ht).2⟩

theorem TestFollows.setBand (band : Band) (hhold : s.batt.hold = false) : TestFollows r (s.setBand band) := by
  have hbanded := h.testBandChange band (dischargeAfter s.batt.band band s.batt.discharge) hhold
  have hexamined : TestFollows r (State.testBandChange { s with batt := { s.batt with
      band := band, discharge := dischargeAfter s.batt.band band s.batt.discharge } }).examineCharge :=
    hbanded.trans (.of_frame (by simp) (by simp) (.of_blocks (by simp) (by simp) (by simp) (by simp) (by simp)))
  unfold State.setBand
  dsimp only
  split
  · refine TestFollows.requestStatus (TestFollows.settleRepeat (hexamined.trans ?_))
    exact .of_terminal (by simp) (by simp) (by simp) (ResultsKept.leaveStart (.inl rfl)) (by simp) (by simp) (by simp) (by simp) (by simp)
  · refine hexamined.trans ?_
    exact .of_terminal (by simp) (by simp) (by simp) (ResultsKept.terminalBandChange (.inl rfl) _) (by simp) (by simp) (by simp) (by simp) (by simp)

theorem TestFollows.evaluated : TestFollows r s.evaluated := by
  have hcounted : TestFollows r { s with batt := { s.batt with evalCount := 0 } } := h.trans (.of_frame rfl rfl (.of_blocks rfl rfl rfl rfl rfl))
  unfold State.evaluated
  dsimp only
  (repeat' split)
  · exact hcounted
  · exact hcounted
  · exact hcounted
  next hhold _ _ _ _ => exact (hcounted.setBand _ (by simpa using hhold)).raiseCarry

/-- An event counted in the phase of a test in flight. -/
theorem TestFollows.withContext {c : TestContext} (hc : s.test.context = some c) (d : TestContext) (hphase : d.phase = c.phase)
    (hevents : EventsInPhase (some d)) : TestFollows r (s.withContext d) := by
  refine h.trans ⟨fun ⟨hcarry, _, hlist⟩ => ⟨hcarry, hevents, hlist⟩, ?_, fun _ => ?_⟩
  · simp [TestShape, State.testPhase, State.withContext, hc, hphase]
  · simp [TestHolds, State.testInFlight, State.withContext, hc]

theorem TestFollows.testSample (voltage : Nat) (current : Int) : TestFollows r (s.testSample voltage current) := by
  have hcollapse (c : TestContext) : TestFollows r (s.collapse c) := by
    exact (h.toFrom.recorded ..).endTest
  unfold State.testSample
  split
  · exact h
  next c hc =>
    (repeat' split)
    next hphase hfew _ => exact h.toFrom.abortTest _
    next hphase hfew _ => exact h.withContext hc _ rfl (by simp [EventsInPhase, hphase]; omega)
    next => exact h
    next hphase hfew => exact h.withContext hc _ rfl (by simp [EventsInPhase, hphase]; omega)
    next => exact hcollapse c
    next hphase _ hfew _ => exact h.withContext hc _ rfl (by simp [EventsInPhase, hphase]; omega)
    next => exact h
    next hphase hfew => exact h.withContext hc _ rfl (by simp [EventsInPhase, hphase]; omega)
    next => exact h

theorem TestFollows.converterSample (voltage current : Nat) : TestFollows r (s.converterSample voltage current) := by
  have hwindow : TestFollows r (s.riserSampled voltage) := h.trans (.of_frame rfl rfl (.of_blocks rfl rfl rfl rfl rfl))
  have hmode : TestFollows r (s.modeSampled voltage current) := by
    unfold State.modeSampled
    dsimp only
    split
    next hidle =>
      (repeat' split)
      · exact hwindow.enterRun
      · exact hwindow.of_stopped (by simp) (by simp) (by simp [State.riserSampled, hidle])
      · exact hwindow
    next hrun =>
      split
      · exact hwindow.trans (.of_frame (by simp [State.ramp]) (by simp [State.ramp]) (.of_blocks (by simp [State.ramp]) (by simp [State.ramp])
          (by simp [State.ramp]) (by simp [State.ramp]) (by simp [State.ramp, State.regulate])))
      · exact hwindow.toFrom.leaveRun _
    next =>
      split
      · exact hwindow.enterRun
      · exact hwindow
    next => exact hwindow
    next => exact hwindow
  rw [State.converterSample_eq]
  exact hmode.trans (.of_frame rfl rfl (.of_blocks rfl rfl rfl rfl rfl))

theorem TestFollows.measured (tb : TimeBase) (m : Samples) : TestFollows r (s.measured tb m) := by
  have hoffered : TestFollows r (s.offered tb m) := h.trans (.of_frame rfl rfl (.of_blocks rfl rfl rfl rfl rfl))
  rw [State.measured_eq]
  exact ((hoffered.testSample _ _).converterSample _ _).raiseCarry

theorem TestFollows.demandTaken : TestFollows r s.demandTaken := by
  unfold State.demandTaken
  split
  · have hdemand : TestFollows r { s.wakeUp with term := { s.wakeUp.term with demand := s.wakeUp.term.candidate } } :=
      h.wakeUp.trans (.of_frame rfl rfl (.of_blocks rfl rfl rfl rfl rfl))
    have htested : TestFollows r (State.testAtDemand { s.wakeUp with term := { s.wakeUp.term with demand := s.wakeUp.term.candidate } }) := by
      unfold State.testAtDemand
      split
      · exact hdemand.toFrom.abortTest _
      · exact hdemand.toFrom.abortTest _
      · exact hdemand
      · exact hdemand
    refine TestFollows.raiseCarry (htested.trans (.of_terminal ?_ ?_ ?_ ?_ ?_ ?_ ?_ ?_ ?_))
    case refine_4 => exact ResultsKept.terminalReacts (ResultsKept.demandWakes (ResultsKept.idleAtDemand (.inl rfl)))
    all_goals simp
  · exact h.trans (.of_frame rfl rfl (.of_blocks rfl rfl rfl rfl rfl))

theorem TestFollows.linkLost : TestFollows r s.linkLost := by
  refine TestFrom.abortTest (TestFollows.toFrom ?_) _
  exact h.trans (.of_terminal (by simp) (by simp) (by simp) (ResultsKept.enterBooting (.inl rfl)) (by simp) (by simp) (by simp) (by simp) (by simp))

/-- A move that leaves what a test is, and adds no more than a record to the list. -/
theorem TestFollows.recorded (k : ResultKind) (v : Verdict) (x : Option Nat) (b : Band) (d : Option Time) :
    TestFollows r ((s.addResult k v x b).setDue d) :=
  h.trans (.of_same rfl rfl rfl (fun hs => hs.of_kept rfl rfl (.addResult ..)) (.of_blocks rfl rfl rfl rfl rfl))

theorem TestFollows.bootTimesOut : TestFollows r s.bootTimesOut := by
  have hhanded : ResultsKept s.test.results s.handTimeout.test.results := .addResult ..
  unfold State.bootTimesOut
  dsimp only
  split
  · exact h.trans (.of_terminal rfl rfl rfl hhanded rfl rfl rfl rfl rfl)
  · exact h.trans (.of_terminal rfl rfl rfl hhanded rfl rfl rfl rfl rfl)

theorem TestFollows.testDone (c : TestContext) : TestFollows r (s.testDone c) := by
  refine TestFollows.raiseCarry ?_
  unfold State.resultOf
  split
  · exact h.toFrom.endTest.trans (.of_same rfl rfl rfl (fun hs => hs.of_kept rfl rfl (.inl rfl)) (.of_blocks rfl rfl rfl rfl rfl))
  · exact h.toFrom.endTest.recorded ..

/-- The next phase of a test in flight, with the gate and the hold that it has. -/
theorem TestFollows.nextPhase {t : State} {c d : TestContext} (hc : s.test.context = some c) (hd : t.test.context = some d)
    (hevents : d.events = 0) (hcount : t.test.carryCount = s.test.carryCount) (hresults : t.test.results = s.test.results)
    (hshape : TestShape s → TestShape t) (hconds : CondsKept s t) : TestFollows r t := by
  refine h.trans ⟨fun ⟨hcarry, _, hlist⟩ => ⟨hcount ▸ hcarry, ?_, hresults ▸ hlist⟩, hshape, fun _ hholds ht => ?_⟩
  · simp [hd, EventsInPhase, hevents]
  · obtain ⟨hband, hmember, href, hconf, hmains, hmode⟩ := hholds (by simp [State.testInFlight, hc])
    exact ⟨hconds.band ▸ hband, hconds.member hmember, hconds.referenced href, hconds.confinement hconf, hconds.mains hmains, hconds.mode hmode⟩

theorem TestFollows.settleEnds {c : TestContext} (hc : s.test.context = some c) : TestFollows r (s.settleEnds c) :=
  h.nextPhase hc rfl rfl rfl rfl (fun _ => by simp [TestShape, State.testPhase, State.settleEnds]) (.of_blocks rfl rfl rfl rfl rfl)

theorem TestFollows.loadEnds {c : TestContext} (hc : s.test.context = some c) (hphase : c.phase = .load) : TestFollows r (s.loadEnds c) := by
  refine h.nextPhase hc rfl rfl rfl rfl (fun ⟨_, hhold⟩ => ?_) (.of_blocks rfl rfl rfl rfl rfl)
  simp only [State.testPhase, hc, Option.map_some, hphase] at hhold
  simpa [TestShape, State.testPhase, State.loadEnds] using hhold

theorem TestFollows.resistanceKnown (i : ResultInHand) : TestFollows r (s.resistanceKnown i) := by
  refine TestFollows.raiseCarry ((h.recorded .pulse (resistanceVerdict s.chemistry (resistanceOf i)) (some (resistanceOf i)) i.startBand
    (s.dueAfter i.startTime)).trans ?_)
  exact .of_same rfl rfl rfl (fun hs => hs.of_kept rfl rfl (.inl rfl)) (.of_blocks rfl rfl rfl rfl rfl)

theorem TestFollows.latches : TestFollows r s.latches := by
  refine TestFrom.leaveRun ?_ _
  exact h.toFrom.of_frame rfl rfl

/-! ### The effect of a command -/

/-- A command that touches neither test unit, battery monitor nor round controller, and takes none of the other conditions. -/
theorem TestFollows.of_untouched {c : Instr} (htest : .test ∉ touched c) (hbatt : .batt ∉ touched c) (hround : .round ∉ touched c)
    (hconf : (Machine.effect c s).line.confinement = s.line.confinement) (hmains : (Machine.effect c s).supply.mains = s.supply.mains)
    (hmode : (Machine.effect c s).conv.mode = s.conv.mode) : TestFollows r (Machine.effect c s) := by
  have hsame := effect_sameBut c s
  refine h.trans (.of_frame (hsame.test htest) ?_ ⟨?_, ?_, ?_, ?_, ?_, ?_⟩)
  · rw [hsame.batt hbatt]
  · rw [hsame.batt hbatt]
  · rw [hsame.round hround]
    exact id
  · rw [hsame.round hround]
    exact id
  · rw [hconf]
    exact id
  · rw [hmains]
    exact id
  · rw [hmode]
    exact id

/-- A test in flight goes on, with its conditions kept, or is ended, whatever the command. -/
theorem TestFollows.effect (c : Instr) : TestFollows r (effect c s) := by
  have hask (t : State) (ht : TestFollows r t) : TestFollows r t.askSleep :=
    ht.trans (.of_frame (by simp) (by simp) ⟨by simp, by simp, by simp, by simp, by rw [State.askSleep_supply]; exact id, by simp⟩)
  have hframe {t : State} (ht : TestFollows r t) {u : State} (htest : u.test = t.test) (hhold : u.batt.hold = t.batt.hold)
      (hc : CondsKept t u) : TestFollows r u := ht.trans (.of_frame htest hhold hc)
  cases c with
  | supplyDipReset => 
    refine effect_keeps hask rfl h (h.trans ?_)
    exact .of_idle (fun ⟨_, _, hlist⟩ => ⟨Nat.zero_le _, by simp [EventsInPhase, State.inReset], hlist⟩) fun _ => ⟨rfl, rfl, rfl⟩
  | start p =>
    simp only [Machine.effect, exec, execStart]
    split
    · refine h.trans (.of_idle (fun ⟨_, _, hlist⟩ => ⟨Nat.zero_le _, by simp [EventsInPhase, State.started], ?_⟩) fun _ => ⟨rfl, rfl, rfl⟩)
      dsimp only [State.started]
      split
      · exact hlist
      · exact Nat.zero_le _
    · exact h
  | retainedStoreLoss =>
    simp only [Machine.effect, exec, execRetainedStoreLoss]
    split
    · exact h.trans (.of_same rfl rfl rfl (fun ⟨hcarry, hevents, _⟩ => ⟨hcarry, hevents, Nat.zero_le _⟩) ⟨rfl, id, id, id, id, id⟩)
    · exact h
  | mainsFail => exact effect_keeps hask rfl h (by split; { exact h.mainsFails }; { exact h })
  | mainsReturn => exact effect_keeps hask rfl h (by split; { exact h.mainsReturns }; { exact h })
  | openingFrame o => exact effect_keeps hask rfl h (by split; { exact h.openingCompletes o }; { exact h })
  | notice n => exact effect_keeps hask rfl h (by split; { exact h.noticeCompletes n }; { exact h })
  | roundTimerExpiry => exact effect_keeps hask rfl h (by split; { exact h.handleExpiry }; { exact h })
  | joinTimerExpiry =>
    refine effect_keeps hask rfl h ?_
    (repeat' split)
    · exact h
    · refine TestFollows.retarget ?_
      exact hframe h rfl rfl ⟨rfl, fun _ => rfl, id, id, id, id⟩
    · exact h
  | roundTimerLead =>
    refine effect_keeps hask rfl h ?_
    split
    · exact hframe h.wakeUp rfl rfl ⟨rfl, id, id, id, id, id⟩
    · exact h
  | lineEdgeWake =>
    refine effect_keeps hask rfl h ?_
    (repeat' split)
    · exact hframe h.wakeUp rfl rfl ⟨rfl, id, id, id, id, id⟩
    · exact hframe h rfl rfl ⟨rfl, id, id, id, id, id⟩
    · exact h
  | closeEvent => exact effect_keeps hask rfl h (by split; { exact h.closeRound }; { exact h })
  | shareComputationComplete => exact effect_keeps hask rfl h (by split; { exact h.computationCompletes }; { exact h })
  | loweringPoint | raisingPoint =>
    refine effect_keeps hask rfl h ?_
    (repeat' split)
    · refine TestFollows.raiseCarry (TestFollows.runPoints ?_)
      exact h.withRound _ rfl rfl
    · exact h.withRound _ rfl rfl
    · exact h
  | mutedReportPoint =>
    refine effect_keeps hask rfl h ?_
    split
    · refine TestFollows.requestStatus ?_
      exact h.withRound _ rfl rfl
    · exact h
  | roundAgeLimit => exact effect_keeps hask rfl h (by split; { exact h.toFrom.losesReference }; { exact h })
  | frameError =>
    refine effect_keeps hask rfl h ?_
    split
    · exact h
    · exact h.takeError _
  | errorDelimiterEnd =>
    refine effect_keeps hask rfl h ?_
    split
    · exact h.delimiterEnds
    · exact h
  | dominantTimeout =>
    refine effect_keeps hask rfl h ?_
    split
    · refine TestFollows.readConfinement ?_
      exact h.withLine _ id
    · exact h
  | lineStuck =>
    refine effect_keeps hask rfl h ?_
    split
    · refine TestFollows.closedIfDue ?_
      exact h.withLine _ id
    · exact h
  | returnFromOffline =>
    refine effect_keeps hask rfl h ?_
    split
    · have hactive : TestFollows r { s with line := { s.line with
          confinement := .active, txErrors := 0, rxErrors := 0, recoveryRuns := 0, recoveryBits := 0 } } := h.withLine _ (by simp)
      exact hframe hactive.raiseCarry (by simp) (by simp) ⟨by simp, by simp, by simp, by simp, by simp, by simp⟩
    · exact h
  | startBitEdge =>
    have hedge {u : State} (hu : TestFollows r u) : TestFollows r u.edgeBegins :=
      hframe hu (by simp) (by simp) ⟨by simp, by simp, by simp, by simp [State.edgeBegins_line], by simp, by simp⟩
    refine effect_keeps hask rfl h ?_
    (repeat' split)
    · exact hedge h
    · exact hedge h
    · exact hedge h.delimiterEnds
    · exact h
    · exact h
    · exact h
    · exact h
  | measurementEvent m =>
    refine effect_keeps hask rfl h ?_
    (repeat' split)
    · exact h
    · exact h.measured _ _
    · exact h
  | bandEvaluation => exact effect_keeps hask rfl h (by split; { exact h.evaluated }; { exact h })
  | settleEnd =>
    refine effect_keeps hask rfl h ?_
    split
    · exact h
    next c hc =>
      split
      · exact h.settleEnds hc
      · exact h
  | loadEnd =>
    refine effect_keeps hask rfl h ?_
    split
    · exact h
    next c hc =>
      split
      next hphase => exact h.loadEnds hc hphase.1
      next => exact h
  | testDone =>
    refine effect_keeps hask rfl h ?_
    (repeat' split)
    · exact h
    · exact h.testDone _
    · exact h
  | resistanceComputed =>
    refine effect_keeps hask rfl h ?_
    (repeat' split)
    · exact h
    · exact h.resistanceKnown _
    · exact h
  | testDue =>
    refine effect_keeps hask rfl h ?_
    (repeat' split)
    · exact h
    · refine TestFollows.raiseCarry (h.trans ?_)
      exact .of_same rfl rfl rfl (fun hs => hs.of_kept rfl rfl (.inl rfl)) (.of_blocks rfl rfl rfl rfl rfl)
    · exact h
  | persistLatch => exact effect_keeps hask rfl h (by split; { exact h.latches }; { exact h })
  | intervalTimerExpiry =>
    refine effect_keeps hask rfl h ?_
    split
    · exact h.intervalBoundary.raiseCarry
    · exact h
  | riserHighLatch =>
    refine effect_keeps hask rfl h ?_
    dsimp only
    split
    · refine TestFrom.leaveRun ?_ _
      exact h.toFrom.of_frame rfl rfl
    · exact hframe h rfl rfl (.of_blocks rfl rfl rfl rfl rfl)
  | demandLevelTaken => exact effect_keeps hask rfl h (by split; { exact h.demandTaken }; { exact h })
  | readySeen =>
    refine effect_keeps hask rfl h ?_
    have hwoken : TestFollows r (if s.pins.ready then s else s.wakeUp) := by split; { exact h }; { exact h.wakeUp }
    generalize (if s.pins.ready then s else s.wakeUp) = w at hwoken
    refine TestFollows.raiseCarry (hwoken.trans ?_)
    exact .of_terminal (by simp) (by simp) (by simp) (ResultsKept.bootReady (.inl rfl)) (by simp) (by simp) (by simp) (by simp) (by simp)
  | readyLost =>
    refine effect_keeps hask rfl h ?_
    have hwoken : TestFollows r (if s.pins.ready then s.wakeUp else s) := by split; { exact h.wakeUp }; { exact h }
    generalize (if s.pins.ready then s.wakeUp else s) = w at hwoken
    have hlost : TestFollows r { w with pins := { w.pins with ready := false } } := hframe hwoken rfl rfl (.of_blocks rfl rfl rfl rfl rfl)
    dsimp only
    split
    · exact hlost.linkLost
    · exact hlost
  | bootTimeout =>
    refine effect_keeps hask rfl h ?_
    (repeat' split)
    · exact h
    · exact h.bootTimesOut
    · exact h
  | retryWaitExpiry =>
    refine effect_keeps hask rfl h ?_
    (repeat' split)
    · exact h
    · refine TestFollows.raiseCarry (h.trans ?_)
      exact .of_terminal (by simp) (by simp) (by simp) (ResultsKept.requestWake (.inl rfl)) (by simp) (by simp) (by simp) (by simp) (by simp)
    · exact h
  | idleTimerExpiry =>
    refine effect_keeps hask rfl h ?_
    (repeat' split)
    · exact h
    · unfold State.idleExpires
      split
      · exact hframe h rfl rfl (.of_blocks rfl rfl rfl rfl rfl)
      · refine TestFollows.raiseCarry ?_
        exact hframe h (by simp) (by simp) (.of_blocks (by simp) (by simp) (by simp) (by simp) (by simp))
    · exact h
  | keepAliveTime =>
    refine effect_keeps hask rfl h ?_
    split
    · exact h
    · dsimp only
      (repeat' split)
      · refine TestFollows.raiseCarry (h.trans ?_)
        exact .of_terminal (by simp) (by simp) (by simp) (ResultsKept.requestWake (.inl rfl)) (by simp) (by simp) (by simp) (by simp) (by simp)
      · exact hframe h rfl rfl (.of_blocks rfl rfl rfl rfl rfl)
      · exact h
  | lineIdle | loseArbitration | extraWaitExpiry | lineStuckClear | fastOscillatorStable | enterSleep | peakLimit | riserLowGateShut
  | riserLowGateOpen | railLimit | railHigh | switchingPeriodStart | onTimeEnd | mainsSenseChange =>
    refine h.of_untouched (by simp [touched]) (by simp [touched]) (by simp [touched]) ?_ ?_ ?_
    · exact effect_proj (·.line.confinement) (by simp) rfl (by (repeat' split) <;> simp [State.becomesIdle, State.fallAsleep])
    · exact effect_proj (·.supply.mains) (by simp) rfl (by (repeat' split) <;> simp [State.becomesIdle, State.fallAsleep])
    · exact effect_proj (·.conv.mode) (by simp) rfl (by
        (repeat' split) <;> simp [State.becomesIdle, State.fallAsleep, State.endOnTime, ConverterState.beginPeriod, apply_ite ConverterState.mode])
  | demandLinesChange | statusFrameEnd | repeatTimerExpiry =>
    refine h.of_untouched (by simp [touched]) (by simp [touched]) (by simp [touched]) ?_ ?_ ?_
    · rw [(effect_sameBut _ s).line (by simp [touched])]
    · exact ((effect_sameBut _ s).supply_fields (by simp [touched])).2.2.1
    · rw [(effect_sameBut _ s).conv (by simp [touched])]
end

/-- Settles O54: a command that takes a condition of a test aborts it, and one that ends a phase sets gate and hold with it. -/
theorem stepKeepsTestSafe : Obligations.StepKeepsTestSafe := by
  intro s t hsafe hconds hstep
  obtain ⟨hshape, hholds⟩ := (testSafe_and_conditions_iff s).mp ⟨hsafe, hconds⟩
  refine (testSafe_and_conditions_iff t).mpr (step_keeps (P := fun s => TestShape s ∧ TestHolds s) (fun s _ h => h) (fun s ⟨hs, hh⟩ => ?_)
    (fun c s ⟨hs, hh⟩ => ?_) ⟨hshape, hholds⟩ hstep)
  · have hticked : TestFollows s s.tick :=
      .of_frame (by simp) (by simp) ⟨by simp, by simp, by simp, by simp, by simp, by simp⟩
    exact ⟨hticked.shape hs, hticked.holds hs hh⟩
  · have hfollows := (TestFollows.refl s).effect c
    exact ⟨hfollows.shape hs, hfollows.holds hs hh⟩

end Sys2Proof.Machine

end

section
/-! ## The terminal interface -/

namespace Sys2Proof.Machine

/-! ### What the terminal's moves leave of it -/

section
variable (s : State)

/-- Terminal moves leave the demand level (R136). -/
@[simp] theorem State.forcedHold_demand : s.forcedHold.term.demand = s.term.demand := by
  unfold State.forcedHold
  split <;> rfl

@[simp] theorem State.cutoffOff_demand : s.cutoffOff.term.demand = s.term.demand := by
  unfold State.cutoffOff
  dsimp only
  (repeat' split) <;> rfl

@[simp] theorem State.powerTests_demand : s.powerTests.term.demand = s.term.demand := by simp [State.powerTests]

@[simp] theorem State.bootReady_demand : s.bootReady.term.demand = s.term.demand := by
  unfold State.bootReady State.enterActive
  (repeat' split) <;> simp

@[simp] theorem State.enterBooting_demand : s.enterBooting.term.demand = s.term.demand := by simp [State.enterBooting]

@[simp] theorem State.makeWake_demand : s.makeWake.term.demand = s.term.demand := by
  unfold State.makeWake
  split <;> simp [State.beginWakeCheck]

@[simp] theorem State.regateWake_demand : s.regateWake.term.demand = s.term.demand := by
  unfold State.regateWake
  split <;> simp

@[simp] theorem State.terminalReacts_demand : s.terminalReacts.term.demand = s.term.demand := by
  unfold State.terminalReacts
  split <;> simp

@[simp] theorem State.requestWake_demand : s.requestWake.term.demand = s.term.demand := by
  unfold State.requestWake
  split <;> simp

@[simp] theorem State.leaveStart_demand : s.leaveStart.term.demand = s.term.demand := by
  unfold State.leaveStart
  dsimp only
  (repeat' split) <;> simp [State.enterHold]

@[simp] theorem State.terminalBandChange_demand (b : Band) : (s.terminalBandChange b).term.demand = s.term.demand := by
  unfold State.terminalBandChange
  split <;> simp [State.enterHold]

@[simp] theorem State.terminalTestEnded_demand : s.terminalTestEnded.term.demand = s.term.demand := by
  unfold State.terminalTestEnded
  dsimp only
  split <;> simp [State.enterHold]

@[simp] theorem State.abortTest_demand (v : Verdict) : (s.abortTest v).term.demand = s.term.demand := by
  unfold State.abortTest State.abortTestDue
  split <;> simp [State.endTest]

end

/-! ### The terminal's states, timers and pending wake -/

/-- The terminal's timers and its pending wake stand as its state has them (R134, R139 to R143); `I` says that an idle timer may run, `A` that the
terminal interface acts. -/
structure TermFits (I A : Prop) (t : TerminalState) : Prop where
  boot : t.bootTimer.isSome = true ↔ t.mode = .booting
  retry : t.retryWait.isSome = true → t.mode = .off ∧ t.offReason = .retry
  idle : t.idleTimer.isSome = true → t.mode = .active ∧ I
  wake : t.wakePending = true → t.mode = .hold ∨ t.mode = .off
  start : ¬ A → ((t.mode = .off ∧ t.offReason = .start) ∨ t.mode = .fault) ∧ t.wakePending = false

theorem TermFits.mono {I J A B : Prop} {t : TerminalState} (h : TermFits I A t) (hi : I → J) (ha : A → B) : TermFits J B t :=
  ⟨h.boot, h.retry, fun ht => ⟨(h.idle ht).1, hi (h.idle ht).2⟩, h.wake, fun hn => h.start fun hA => hn (ha hA)⟩

/-- A terminal at its start, or held in FAULT, with nothing running. -/
theorem TermFits.fresh {I A : Prop} {t : TerminalState} (hmode : (t.mode = .off ∧ t.offReason = .start) ∨ t.mode = .fault)
    (hboot : t.bootTimer = none) (hretry : t.retryWait = none) (hidle : t.idleTimer = none) (hwake : t.wakePending = false) : TermFits I A t := by
  have hnotBooting : t.mode ≠ .booting := by
    obtain ⟨hm, -⟩ | hm := hmode <;> simp [hm]
  exact ⟨by simp [hboot, hnotBooting], by simp [hretry], by simp [hidle], by simp [hwake], fun _ => ⟨hmode, hwake⟩⟩

/-- The terminal of a state: its retry count in range, if `C` asks for that, and fitting, if `F` does. -/
structure TermOk (C F I A : Prop) (s : State) : Prop where
  count : C → s.term.retryCount ≤ 1
  fits : F → TermFits I A s.term
  idles : s.inOutage = true → s.term.demand = .idle → I
  acts : s.acting = true → A

theorem terminalSafe_iff (s : State) :
    TerminalSafe s ↔ TermFits (s.supply.mains = .absent ∧ s.term.demand = .idle) (s.acting = true) s.term := by
  constructor
  · rintro ⟨hboot, hretry, hidle, hwake, hstart⟩
    exact ⟨hboot, hretry, hidle, hwake, fun hn => hstart (by simpa [State.acting] using hn)⟩
  · rintro ⟨hboot, hretry, hidle, hwake, hstart⟩
    exact ⟨hboot, hretry, hidle, hwake, fun hn => hstart (by simp [State.acting, hn])⟩

section
variable {C F I A : Prop} {s : State} (h : TermOk C F I A s)
include h

/-- Another terminal, in an outage or out of it as before. -/
theorem TermOk.withTerm {t : State} (hcount : C → t.term.retryCount ≤ 1) (hfits : F → TermFits I A t.term)
    (hsup : t.supply.mains = s.supply.mains) (hdemand : t.term.demand = s.term.demand) (hband : t.batt.band = s.batt.band) : TermOk C F I A t :=
  ⟨hcount, hfits, by simpa [State.inOutage, hsup, hdemand] using h.idles, by simpa [State.acting, hband] using h.acts⟩

/-- A move of other blocks. -/
theorem TermOk.frame {t : State} (hterm : t.term = s.term) (hsup : t.supply.mains = s.supply.mains) (hband : t.batt.band = s.batt.band) :
    TermOk C F I A t :=
  h.withTerm (by rw [hterm]; exact h.count) (by rw [hterm]; exact h.fits) hsup (by rw [hterm]) hband

theorem TermOk.enterHold (hmode : F → s.term.retryWait = none) (ha : F → A) : TermOk C F I A s.enterHold :=
  h.withTerm h.count (fun hf => ⟨by simp [State.enterHold], by simp [State.enterHold, hmode hf], by simp [State.enterHold],
    by simp [State.enterHold], fun hn => absurd (ha hf) hn⟩) rfl rfl rfl

/-- A retry wait stands in no state but OFF, and no terminal has left its start that does not act (R134, R141). -/
theorem TermOk.of_running (hf : F) (hoff : s.term.mode ≠ .off) (hfault : s.term.mode ≠ .fault) : s.term.retryWait = none ∧ A := by
  obtain ⟨-, hretry, -, -, hstart⟩ := h.fits hf
  refine ⟨?_, ?_⟩
  · cases hw : s.term.retryWait with
    | none => rfl
    | some t => exact absurd (hretry (by simp [hw])).1 hoff
  · refine Classical.byContradiction fun hn => ?_
    obtain ⟨⟨hm, -⟩ | hm, -⟩ := hstart hn
    · exact hoff hm
    · exact hfault hm

theorem TermOk.forcedHold : TermOk C F I A s.forcedHold := by
  unfold State.forcedHold
  split
  next hforced =>
    have hmode : s.term.mode = .active := by
      simp only [Bool.and_eq_true, decide_eq_true_eq] at hforced
      grind
    exact h.enterHold (fun hf => (h.of_running hf (by simp [hmode]) (by simp [hmode])).1)
      (fun hf => (h.of_running hf (by simp [hmode]) (by simp [hmode])).2)
  next => exact h

theorem TermOk.cutoffOff : TermOk C F I A s.cutoffOff := by
  unfold State.cutoffOff
  split
  next hholds =>
    have hmode : s.term.mode ≠ .off ∧ s.term.mode ≠ .fault := by
      simp only [State.cutoffHolds, Bool.and_eq_true, Bool.or_eq_true, decide_eq_true_eq] at hholds
      obtain ⟨⟨-, (hm | hm) | hm⟩, -⟩ := hholds <;> simp [hm]
    have hcut : TermOk C F I A { s with term := { s.term with
        mode := .off, offReason := .cutoff, bootTimer := none, idleTimer := none, retryCount := 0, wakeMark := false } } := by
      refine h.withTerm (fun _ => Nat.zero_le _) (fun hf => ?_) rfl rfl rfl
      obtain ⟨hnone, hA⟩ := h.of_running hf hmode.1 hmode.2
      exact ⟨by simp, by simp [hnone], by simp, by simp, fun hn => absurd hA hn⟩
    dsimp only
    split
    · exact hcut.frame rfl rfl rfl
    · exact hcut
  next => exact h

theorem TermOk.powerTests : TermOk C F I A s.powerTests := h.cutoffOff.forcedHold

/-- A boot that comes up is ACTIVE, no wake pending (R140). -/
theorem TermOk.enterActive (began : Time) (hmode : s.term.mode = .booting) : TermOk C F I A (s.enterActive began) := by
  unfold State.enterActive
  dsimp only
  refine TermOk.powerTests ?_
  refine h.withTerm (fun _ => Nat.zero_le _) (fun hf => ?_) ?_ ?_ ?_
  · obtain ⟨hnone, hA⟩ := h.of_running hf (by simp [hmode]) (by simp [hmode])
    have hwake : s.term.wakePending = false := by
      cases hw : s.term.wakePending with
      | false => rfl
      | true =>
        have := (h.fits hf).wake hw
        simp [hmode] at this
    have hidle : (s.inOutage && decide (s.term.demand = .idle)) = true → I := by
      simp only [Bool.and_eq_true, decide_eq_true_eq]
      exact fun ⟨ho, hd⟩ => h.idles ho hd
    refine ⟨by simp, ?_, ?_, ?_, fun hn => absurd hA hn⟩
    · dsimp only
      split <;> simp [hnone]
    · dsimp only
      intro hi
      refine ⟨rfl, hidle ?_⟩
      refine Classical.byContradiction fun hn => ?_
      rw [if_neg hn] at hi
      simp at hi
    · dsimp only
      split <;> simp [hwake]
  all_goals (dsimp only; split <;> rfl)

theorem TermOk.bootReady : TermOk C F I A s.bootReady := by
  unfold State.bootReady
  split
  · exact h
  · split
    next hready =>
      simp only [Bool.and_eq_true, decide_eq_true_eq] at hready
      exact h.enterActive _ hready.1.2
    next => exact h

theorem TermOk.enterBooting (hwake : F → s.term.wakePending = false) (ha : F → A) : TermOk C F I A s.enterBooting := by
  unfold State.enterBooting
  refine TermOk.bootReady ?_
  exact h.withTerm h.count (fun hf => ⟨by simp, by simp, by simp, by simp [hwake hf], fun hn => absurd (ha hf) hn⟩) rfl rfl rfl

theorem TermOk.makeWake (ha : F → A) : TermOk C F I A s.makeWake := by
  have hclear (mark : Bool) : TermOk C F I A { s with term := { s.term with wakePending := false, wakeMark := mark } } :=
    h.withTerm h.count (fun hf => by
      obtain ⟨hboot, hretry, hidle, -, hstart⟩ := h.fits hf
      exact ⟨hboot, hretry, hidle, by simp, fun hn => ⟨(hstart hn).1, rfl⟩⟩) rfl rfl rfl
  unfold State.makeWake
  split
  · refine TermOk.enterBooting ?_ (fun _ => rfl) ha
    exact (hclear true).frame rfl rfl rfl
  · exact (hclear false).enterBooting (fun _ => rfl) ha

theorem TermOk.requestWake (hmode : F → s.term.mode = .hold ∨ s.term.mode = .off) (ha : F → A) : TermOk C F I A s.requestWake := by
  unfold State.requestWake
  split
  · exact h.makeWake ha
  · refine h.withTerm h.count (fun hf => ?_) rfl rfl rfl
    obtain ⟨hboot, hretry, hidle, -, -⟩ := h.fits hf
    exact ⟨hboot, hretry, hidle, fun _ => hmode hf, fun hn => absurd (ha hf) hn⟩

theorem TermOk.regateWake : TermOk C F I A s.regateWake := by
  rw [State.regateWake_eq]
  split
  next hgate => exact h.makeWake fun _ => h.acts hgate.2.1
  next => exact h

theorem TermOk.terminalReacts : TermOk C F I A s.terminalReacts := by
  unfold State.terminalReacts
  split
  · exact h.powerTests.regateWake
  · exact h

theorem TermOk.grantSeen (n : Nat) : TermOk C F I A (s.grantSeen n) := by
  unfold State.grantSeen
  split
  · exact h
  · exact h.terminalReacts

/-- The deferred hold is made in ACTIVE alone (R143). -/
theorem TermOk.terminalTestEnded : TermOk C F I A s.terminalTestEnded := by
  have hcleared {u : State} (hu : TermOk C F I A u) : TermOk C F I A { u with term := { u.term with deferredHold := false } } :=
    hu.withTerm hu.count (fun hf => by
      obtain ⟨⟩ := hu.fits hf
      constructor <;> assumption) rfl rfl rfl
  unfold State.terminalTestEnded
  dsimp only
  refine TermOk.regateWake (hcleared ?_)
  split
  next hdeferred =>
    have hmode : s.term.mode = .active := by
      simp only [Bool.and_eq_true, decide_eq_true_eq] at hdeferred
      exact hdeferred.1.2
    exact h.enterHold (fun hf => (h.of_running hf (by simp [hmode]) (by simp [hmode])).1)
      (fun hf => (h.of_running hf (by simp [hmode]) (by simp [hmode])).2)
  next => exact h

theorem TermOk.endTest : TermOk C F I A s.endTest := by
  unfold State.endTest
  refine TermOk.terminalTestEnded ?_
  exact h.frame (by simp) (by simp) (by simp; split <;> rfl)

theorem TermOk.abortTestDue (v : Verdict) (d : Option Time) : TermOk C F I A (s.abortTestDue v d) := by
  unfold State.abortTestDue
  split
  · exact h
  · exact h.endTest.frame rfl rfl rfl

theorem TermOk.abortTest (v : Verdict) : TermOk C F I A (s.abortTest v) := h.abortTestDue v _

/-- A terminal at its start moves at the first band evaluation; no wake is pending there (R137). -/
theorem TermOk.leaveStart (hwake : F → s.term.wakePending = false) (ha : F → A) : TermOk C F I A s.leaveStart := by
  unfold State.leaveStart
  split
  next hstart =>
    obtain ⟨hoff, hreason⟩ := hstart
    have hnone (hf : F) : s.term.retryWait = none := by
      cases hw : s.term.retryWait with
      | none => rfl
      | some t =>
        have := (h.fits hf).retry (by simp [hw])
        simp [hreason] at this
    have hnotBooting (hf : F) : s.term.bootTimer = none := by
      have := (h.fits hf).boot
      simpa [hoff] using this
    have hidle (hf : F) : s.term.idleTimer = none := by
      cases hi : s.term.idleTimer with
      | none => rfl
      | some t =>
        have := (h.fits hf).idle (by simp [hi])
        simp [hoff] at this
    split
    · refine TermOk.enterBooting ?_ hwake ha
      exact h.withTerm (fun _ => Nat.zero_le _) (fun hf => by
        obtain ⟨⟩ := h.fits hf
        constructor <;> assumption) rfl rfl rfl
    · split
      · exact h.withTerm h.count (fun hf => ⟨by simp [hnotBooting hf, hoff], by simp [hnone hf], by simp [hidle hf], by simp [hwake hf],
          fun hn => absurd (ha hf) hn⟩) rfl rfl rfl
      · have hheld := h.enterHold hnone ha
        dsimp only
        split
        · exact hheld
        · exact hheld.requestWake (fun _ => .inl rfl) ha
  next => exact h

/-- From OFF (CUTOFF) the terminal goes to HOLD (R145). -/
theorem TermOk.terminalBandChange (b : Band) (ha : F → A) : TermOk C F I A (s.terminalBandChange b) := by
  unfold State.terminalBandChange
  refine TermOk.terminalReacts ?_
  split
  next hrise =>
    refine h.enterHold (fun hf => ?_) ha
    cases hw : s.term.retryWait with
    | none => rfl
    | some t =>
      have := (h.fits hf).retry (by simp [hw])
      simp [hrise.2.2.2] at this
  next => exact h

end

/-- The band is left by a wake, by the close event and by what ends a frame. -/
@[simp] theorem State.wakeUp_band (s : State) : s.wakeUp.batt.band = s.batt.band := by
  unfold State.wakeUp
  split <;> simp

@[simp] theorem State.closeRound_band (s : State) : s.closeRound.batt.band = s.batt.band := by simp [State.closeRound]

@[simp] theorem State.closedIfDue_band (s : State) : s.closedIfDue.batt.band = s.batt.band := by
  unfold State.closedIfDue
  split <;> simp

@[simp] theorem State.frameEnded_band (s : State) : s.frameEnded.batt.band = s.batt.band := by
  rw [State.frameEnded_eq]
  split <;> simp

@[simp] theorem State.getsStuck_band (s : State) : s.getsStuck.batt.band = s.batt.band := State.closedIfDue_band _

/-- An abort leaves the band. -/
theorem State.abortTestDue_band (s : State) (v : Verdict) (d : Option Time) : (s.abortTestDue v d).batt.band = s.batt.band := by
  unfold State.abortTestDue
  split
  · rfl
  · exact (State.endTest_batt s).2.1

theorem State.abortTest_band (s : State) (v : Verdict) : (s.abortTest v).batt.band = s.batt.band := s.abortTestDue_band v _

/-! ### What the commands do to the terminal -/

/-- The terminal of a state, as `TermOk` has it, with the idle timer of an outage at demand IDLE. -/
def TermHolds (C F : Prop) (s : State) : Prop := TermOk C F (s.supply.mains = .absent ∧ s.term.demand = .idle) (s.acting = true) s

theorem TermHolds.intro {C F : Prop} {s : State} (hcount : C → s.term.retryCount ≤ 1)
    (hfits : F → TermFits (s.supply.mains = .absent ∧ s.term.demand = .idle) (s.acting = true) s.term) : TermHolds C F s := by
  refine ⟨hcount, hfits, fun ho hd => ⟨?_, hd⟩, id⟩
  cases hm : s.supply.mains <;> simp_all [State.inOutage]

/-- The parts of the terminal that its invariants are about, with what they look at beside it. -/
structure SameTerm (s t : State) : Prop where
  mode : t.term.mode = s.term.mode
  offReason : t.term.offReason = s.term.offReason
  demand : t.term.demand = s.term.demand
  wakePending : t.term.wakePending = s.term.wakePending
  bootTimer : t.term.bootTimer = s.term.bootTimer
  retryCount : t.term.retryCount = s.term.retryCount
  retryWait : t.term.retryWait = s.term.retryWait
  idleTimer : t.term.idleTimer = s.term.idleTimer
  mains : t.supply.mains = s.supply.mains
  band : t.batt.band = s.batt.band

theorem SameTerm.of_blocks {s t : State} (hterm : t.term = s.term) (hmains : t.supply.mains = s.supply.mains) (hband : t.batt.band = s.batt.band) :
    SameTerm s t := by
  refine ⟨?_, ?_, ?_, ?_, ?_, ?_, ?_, ?_, hmains, hband⟩
  all_goals rw [hterm]

section
variable {C F : Prop} {s : State} (h : TermHolds C F s)
include h

theorem TermHolds.same {t : State} (hst : SameTerm s t) : TermHolds C F t := by
  obtain ⟨hmode, hreason, hdemand, hwake, hboot, hcount, hretry, hidle, hmains, hband⟩ := hst
  refine .intro (by rw [hcount]; exact h.count) fun hf => ?_
  obtain ⟨fboot, fretry, fidle, fwake, fstart⟩ := h.fits hf
  constructor
  · rw [hboot, hmode]
    exact fboot
  · rw [hretry, hmode, hreason]
    exact fretry
  · rw [hidle, hmode, hmains, hdemand]
    exact fidle
  · rw [hwake, hmode]
    exact fwake
  · rw [hmode, hreason, hwake]
    simpa [State.acting, hband] using fstart

theorem TermHolds.frame {t : State} (hterm : t.term = s.term) (hmains : t.supply.mains = s.supply.mains) (hband : t.batt.band = s.batt.band) :
    TermHolds C F t := h.same (.of_blocks hterm hmains hband)

/-- A move of the terminal that leaves demand level, mains state and band. -/
theorem TermHolds.of_ok {t : State} (ht : TermOk C F (s.supply.mains = .absent ∧ s.term.demand = .idle) (s.acting = true) t)
    (hmains : t.supply.mains = s.supply.mains) (hdemand : t.term.demand = s.term.demand) (hband : t.batt.band = s.batt.band) :
    TermHolds C F t := by
  refine .intro ht.count fun hf => ?_
  have hacting : t.acting = s.acting := by simp [State.acting, hband]
  rw [hmains, hdemand, hacting]
  exact ht.fits hf

theorem TermHolds.raiseCarry : TermHolds C F s.raiseCarry := h.frame (by simp) (by simp) (by simp)

theorem TermHolds.terminalReacts : TermHolds C F s.terminalReacts :=
  h.of_ok (TermOk.terminalReacts h) (by simp) (by simp) (by simp)

theorem TermHolds.grantSeen (n : Nat) : TermHolds C F (s.grantSeen n) := by
  unfold State.grantSeen
  split
  · exact h
  · exact h.terminalReacts

theorem TermHolds.abortTest (v : Verdict) : TermHolds C F (s.abortTest v) :=
  h.of_ok (TermOk.abortTest h v) (by simp) (by simp) (State.abortTest_band s v)

theorem TermHolds.endTest : TermHolds C F s.endTest :=
  h.of_ok (TermOk.endTest h) (by simp) (by simp [State.endTest]) (State.endTest_batt s).2.1

theorem TermHolds.retarget : TermHolds C F s.retarget := h.frame (by simp) (by simp) (by simp)

theorem TermHolds.leaveRun (m : ConverterMode) : TermHolds C F (s.leaveRun m) := by
  refine TermHolds.abortTest ?_ _
  exact h.frame (by simp) (by simp) (by simp)

theorem TermHolds.enterRun : TermHolds C F s.enterRun := by
  have hrun : TermHolds C F s.runEntered := h.frame (by simp [State.runEntered]) (by simp [State.runEntered]) (by simp [State.runEntered])
  have heq : s.enterRun = if s.pins.riserHigh then s.runEntered.leaveRun .held else s.runEntered := rfl
  rw [heq]
  split
  · exact hrun.leaveRun _
  · exact hrun

theorem TermHolds.intervalBoundary : TermHolds C F s.intervalBoundary := by
  rw [State.intervalBoundary_eq]
  (repeat' split)
  · refine TermHolds.enterRun ?_
    exact h.frame rfl rfl rfl
  · exact h.frame rfl rfl rfl
  · exact h.frame rfl rfl rfl

theorem TermHolds.applyLowering : TermHolds C F s.applyLowering := by
  unfold State.applyLowering
  dsimp only
  refine TermHolds.grantSeen ?_ _
  have hshare : TermHolds C F { s with share := { s.share with
    feedGrant := min s.share.feedGrant s.share.computedFeed
    chargeGrant := min s.share.chargeGrant s.share.computedCharge } } := h.frame rfl rfl rfl
  have hlow := hshare.retarget.intervalBoundary
  (repeat' split)
  · exact hlow
  · exact hlow.abortTest _
  · exact hlow

theorem TermHolds.applyRaising : TermHolds C F s.applyRaising := by
  unfold State.applyRaising
  dsimp only
  have hshare : TermHolds C F { s with share := s.share.raised s.ceiling } := h.frame rfl rfl rfl
  have hband (u : State) : u.startTest.batt.band = u.batt.band := by
    unfold State.startTest
    split <;> simp
  exact (hshare.retarget.grantSeen s.share.feedGrant).frame (by simp) (by simp) (by simp [hband])

theorem TermHolds.lowered : TermHolds C F s.lowered := by
  unfold State.lowered
  split
  · refine TermHolds.applyLowering ?_
    exact h.frame rfl rfl rfl
  · exact h

theorem TermHolds.runPoints : TermHolds C F s.runPoints := by
  rw [State.runPoints_eq]
  split
  · refine TermHolds.applyRaising ?_
    exact h.lowered.frame rfl rfl rfl
  · exact h.lowered

theorem TermHolds.clearStanding : TermHolds C F s.clearStanding := by
  unfold State.clearStanding
  dsimp only
  refine TermHolds.grantSeen (TermHolds.abortTest ?_ _) _
  exact h.frame (by simp) (by simp) (by simp)

theorem TermHolds.settlePrevious : TermHolds C F s.settlePrevious := by
  have hclosed : TermHolds C F s.closedIfPending := by
    unfold State.closedIfPending
    split
    · exact h.frame (by simp) (by simp) (by simp [State.closeRound])
    · exact h
  have hround (round : RoundState) : TermHolds C F { s.closedIfPending with round := round } := hclosed.frame rfl rfl rfl
  rw [State.settlePrevious_eq]
  dsimp only
  (repeat' split)
  · exact hround _
  · exact (hround _).applyLowering
  · exact hround _

theorem TermHolds.takeReference (o : Opening) : TermHolds C F (s.takeReference o) := by
  have hsettled : TermHolds C F ({ s with line := s.line.dropOpenings } : State).settlePrevious := by
    refine TermHolds.settlePrevious ?_
    exact h.frame rfl rfl rfl
  have htaken : TermHolds C F (s.referenceTaken o) := hsettled.frame (by simp [State.referenceTaken, State.referenceAdopted])
    (by simp [State.referenceTaken, State.referenceAdopted]) (by simp [State.referenceTaken, State.referenceAdopted])
  rw [State.takeReference_eq]
  unfold State.pointsPending State.snapshotIfMember
  split
  · exact htaken.frame (by simp) (by simp) (by simp)
  · exact htaken.frame rfl rfl rfl

theorem TermHolds.closedIfDue : TermHolds C F s.closedIfDue := by
  unfold State.closedIfDue
  split
  · exact h.frame (by simp) (by simp) (by simp [State.closeRound])
  · exact h

theorem TermHolds.frameEnded : TermHolds C F s.frameEnded := by
  rw [State.frameEnded_eq]
  split
  · exact h.closedIfDue.frame (by simp) (by simp) (by simp)
  · exact h.closedIfDue

theorem TermHolds.clash : TermHolds C F s.clash := by
  have hmuted : TermHolds C F s.mutedByClash := by
    unfold State.mutedByClash
    split
    · exact h
    · refine TermHolds.clearStanding ?_
      exact h.frame rfl rfl rfl
  rw [State.clash_eq]
  exact hmuted.frameEnded.frame (by simp) (by simp) (by simp)

theorem TermHolds.readConfinement : TermHolds C F s.readConfinement := by
  have hline (l : LineState) : TermHolds C F { s with line := l } := h.frame rfl rfl rfl
  unfold State.readConfinement
  split
  · exact h
  · split
    · exact (hline _).abortTest _
    · exact hline _
    · exact hline _

theorem TermHolds.completeFrame : TermHolds C F s.completeFrame := by
  unfold State.completeFrame State.countValid
  refine TermHolds.readConfinement ?_
  exact h.frame rfl rfl rfl

theorem TermHolds.takeError (k : ErrorKind) : TermHolds C F (s.takeError k) := by
  have hcounted : TermHolds C F s.errorCounted := by
    refine TermHolds.readConfinement ?_
    exact h.frame rfl rfl rfl
  exact hcounted.frame rfl rfl rfl

theorem TermHolds.openingCompletes (o : Opening) : TermHolds C F (s.openingCompletes o) := by
  have hc := h.completeFrame
  unfold State.openingCompletes
  dsimp only
  (repeat' split)
  · exact hc.clash
  · exact hc.frameEnded
  · have hjoined : TermHolds C F { s.completeFrame with
        round := { s.completeFrame.round with participation := .member, joinTimer := none } } := hc.frame rfl rfl rfl
    exact (hjoined.takeReference o).frame (by simp) (by simp) (by simp)
  · exact (hc.takeReference o).frame (by simp) (by simp) (by simp)

theorem TermHolds.noticeCompletes (n : Notice) : TermHolds C F (s.noticeCompletes n) := by
  have hc := h.completeFrame
  unfold State.noticeCompletes
  dsimp only
  split
  · exact hc.clash
  · refine (TermHolds.retarget ?_).frameEnded
    exact hc.frame rfl rfl rfl

theorem TermHolds.computationCompletes : TermHolds C F s.computationCompletes := by
  have hfinished : TermHolds C F s.finishShare := h.frame (by simp) (by simp) (by simp)
  have howed : TermHolds C F s.finishShare.owedApplied := by
    unfold State.owedApplied
    split
    · refine TermHolds.applyLowering ?_
      exact hfinished.frame rfl rfl rfl
    · exact hfinished
  rw [State.computationCompletes_eq]
  exact howed.runPoints.raiseCarry

theorem TermHolds.losesReference : TermHolds C F s.losesReference := by
  have hcleared : TermHolds C F (State.clearStanding { s with round := { s.round with referenced := false } }) := by
    refine TermHolds.clearStanding ?_
    exact h.frame rfl rfl rfl
  exact hcleared.frame (by simp [State.losesReference]) (by simp [State.losesReference]) (by simp [State.losesReference])

/-! ### Mains, bands, samples -/

theorem TermHolds.wakeUp : TermHolds C F s.wakeUp := h.frame (by simp) (by simp) (by simp)

/-- An outage begins: the idle timer of an ACTIVE terminal at demand IDLE may run from here on (R143). -/
theorem TermHolds.terminalMainsFail {t : State} (hterm : t.term = s.term) (hband : t.batt.band = s.batt.band)
    (hmains : t.supply.mains = .absent) : TermHolds C F t.terminalMainsFail := by
  have hout : TermHolds C F t := by
    refine .intro (by rw [hterm]; exact h.count) fun hf => ?_
    have hfits := h.fits hf
    rw [hterm]
    exact hfits.mono (fun hi => ⟨hmains, hi.2⟩) (by simp [State.acting, hband])
  unfold State.terminalMainsFail
  dsimp only
  split
  · refine TermHolds.terminalReacts ?_
    refine .intro hout.count fun hf => ?_
    obtain ⟨hboot, hretry, hidle, hwake, hstart⟩ := hout.fits hf
    refine ⟨hboot, hretry, fun hi => ?_, hwake, hstart⟩
    dsimp only at hi
    split at hi
    next hact =>
      simp only [Bool.and_eq_true, decide_eq_true_eq] at hact
      exact ⟨hact.1, hmains, hact.2⟩
    next => exact hidle hi
  · exact hout.same ⟨rfl, rfl, rfl, rfl, rfl, rfl, rfl, rfl, rfl, rfl⟩

theorem TermHolds.mainsFails : TermHolds C F s.mainsFails := by
  have hfailed : TermHolds C F (State.terminalMainsFail (State.mainsFailArming { s.wakeUp with
      supply := { s.wakeUp.supply with mains := .absent, onset := some s.wakeUp.clock } })) :=
    h.wakeUp.terminalMainsFail (by simp) (by simp) (by simp)
  unfold State.mainsFails
  refine TermHolds.raiseCarry ?_
  exact hfailed.frame (by simp) (by simp) (by simp)

/-- Mains return stops the idle timer of a terminal that acts, and one that does not act has none (R134, R146). -/
theorem TermHolds.terminalMainsReturn :
    TermHolds C F (State.terminalMainsReturn { s with supply := { s.supply with mains := .present } }) := by
  have hstopped {t : State} (hcount : C → t.term.retryCount ≤ 1)
      (hmode : t.term.mode = s.term.mode) (hreason : t.term.offReason = s.term.offReason) (hboot : t.term.bootTimer = s.term.bootTimer)
      (hretry : t.term.retryWait = s.term.retryWait) (hidle : t.term.idleTimer = none) (hwake : t.term.wakePending = false)
      (hband : t.batt.band = s.batt.band) : TermHolds C F t := by
    refine .intro hcount fun hf => ?_
    obtain ⟨fboot, fretry, -, -, fstart⟩ := h.fits hf
    refine ⟨by rw [hboot, hmode]; exact fboot, by rw [hretry, hmode, hreason]; exact fretry, by simp [hidle], by simp [hwake], fun hn => ?_⟩
    rw [hmode, hreason]
    exact ⟨(fstart (by simpa [State.acting, hband] using hn)).1, hwake⟩
  have hboots {t : State} (ht : TermHolds C F t) (hwake : t.term.wakePending = false) (ha : t.acting = true) : TermHolds C F t.enterBooting :=
    ht.of_ok (TermOk.enterBooting ht (fun _ => hwake) fun _ => ha) (by simp) (by simp) (by simp)
  unfold State.terminalMainsReturn
  dsimp only
  split
  next hacts =>
    have hact (u : State) (hu : u.batt = s.batt) : u.acting = true := by
      rw [← hacts]
      simp [State.acting, hu]
    have hfresh : TermHolds C F { s with
        supply := { s.supply with mains := .present }
        term := { s.term with keepAlive := none, idleTimer := none, deferredHold := false, wakePending := false
                              retryCount := 0, wakeMark := false } } :=
      hstopped (fun _ => Nat.zero_le _) rfl rfl rfl rfl rfl rfl rfl
    have hcleared : TermHolds C F { s with
        supply := { s.supply with mains := .present }
        term := { s.term with keepAlive := none, idleTimer := none, deferredHold := false, wakePending := false } } :=
      hstopped h.count rfl rfl rfl rfl rfl rfl rfl
    (repeat' split)
    · exact hboots hfresh rfl (hact _ rfl)
    · exact hboots hfresh rfl (hact _ rfl)
    · exact hboots hfresh rfl (hact _ rfl)
    · exact hboots hfresh rfl (hact _ rfl)
    · exact hboots hcleared rfl (hact _ rfl)
    · exact hcleared
    · exact hcleared
    · exact hcleared
  next hidle =>
    refine .intro h.count fun hf => ?_
    obtain ⟨hboot, hretry, hidling, hwake, hstart⟩ := h.fits hf
    have hout := hstart hidle
    refine ⟨hboot, hretry, fun hi => ?_, hwake, fun _ => hout⟩
    obtain ⟨hm, -⟩ := hidling hi
    simp [hm] at hout

theorem TermHolds.mainsReturns : TermHolds C F s.mainsReturns := by
  have hreturned := h.wakeUp.terminalMainsReturn
  have haborted (u : State) (hu : TermHolds C F u) : TermHolds C F u.testMainsReturn := by
    have hab : TermHolds C F (u.abortTestDue .aborted none) :=
      hu.of_ok (TermOk.abortTestDue hu _ _) (by simp) (by unfold State.abortTestDue; split <;> simp [State.endTest]) (u.abortTestDue_band _ _)
    exact hab.frame rfl rfl rfl
  have hconv (u : State) : u.converterMainsReturn.batt.band = u.batt.band := by
    unfold State.converterMainsReturn
    split <;> simp [State.enterIdle]
  have hexamined (u : State) (hu : TermHolds C F u) : TermHolds C F u.testMainsReturn.converterMainsReturn.examineCharge :=
    (haborted u hu).frame (by simp) (by simp) (by simp [hconv])
  exact hexamined _ hreturned

end

theorem targetBand_ne_unrated (ch : Chemistry) (v : Nat) : targetBand ch v ≠ .unrated := by
  unfold targetBand
  (repeat' split) <;> simp

/-- An evaluation never makes the band UNRATED (R128). -/
theorem newBand_ne_unrated (c : Chemistry) (b : Band) (v : Nat) : newBand c b v ≠ .unrated := by
  have htarget := targetBand_ne_unrated c v
  have habove (hb : b ≠ .unrated) : bandAbove b ≠ .unrated := by
    cases b <;> simp_all [bandAbove]
  unfold newBand
  dsimp only
  split
  · exact htarget
  next hb =>
    (repeat' split)
    · exact htarget
    · exact hb
    · exact habove hb
    · exact hb

/-- The end of a test makes no wake where none is pending. -/
theorem State.abortTest_wakePending {s : State} (h : s.term.wakePending = false) (v : Verdict) : (s.abortTest v).term.wakePending = false := by
  have hended (u : State) (hu : u.term.wakePending = false) : u.terminalTestEnded.term.wakePending = false := by
    unfold State.terminalTestEnded State.regateWake
    dsimp only
    split <;> simp [State.enterHold, hu]
  unfold State.abortTest State.abortTestDue
  split
  · exact h
  · exact hended _ (by simpa using h)

theorem State.testBandChange_band (s : State) : s.testBandChange.batt.band = s.batt.band := by
  unfold State.testBandChange
  (repeat' split)
  · rfl
  · exact State.abortTest_band ..
  · rfl

theorem State.testBandChange_wakePending {s : State} (h : s.term.wakePending = false) : s.testBandChange.term.wakePending = false := by
  unfold State.testBandChange
  (repeat' split)
  · exact h
  · exact State.abortTest_wakePending h _
  · exact h

/-- A new band, with the discharge switch that it gives (R128, R130). -/
def State.banded (s : State) (band : Band) : State :=
  { s with batt := { s.batt with band := band, discharge := dischargeAfter s.batt.band band s.batt.discharge } }

theorem State.setBand_eq (s : State) (band : Band) : s.setBand band
    = if s.batt.band = .unrated then (s.banded band).testBandChange.examineCharge.leaveStart.settleRepeat.requestStatus
      else (s.banded band).testBandChange.examineCharge.terminalBandChange s.batt.band := rfl

section
variable {C F : Prop} {s : State} (h : TermHolds C F s)
include h

/-- A first evaluation finds a terminal at its start, without a pending wake; a later one answers the change of band (R137, R139, R144, R145). -/
theorem TermHolds.setBand (band : Band) (hband : band ≠ .unrated) : TermHolds C F (s.setBand band) := by
  have hbanded : TermHolds C F (s.banded band) :=
    .intro h.count fun hf => (h.fits hf).mono id fun _ => by simp [State.acting, State.banded, hband]
  have htested : TermHolds C F (s.banded band).testBandChange := by
    unfold State.testBandChange
    (repeat' split)
    · exact hbanded
    · exact hbanded.abortTest _
    · exact hbanded
  have hexamined : TermHolds C F (s.banded band).testBandChange.examineCharge := htested.frame (by simp) (by simp) (by simp)
  have hacts : (s.banded band).testBandChange.examineCharge.acting = true := by
    simp [State.acting, State.testBandChange_band, State.banded, hband]
  rw [State.setBand_eq]
  split
  next hold =>
    have hwake (hf : F) : (s.banded band).testBandChange.examineCharge.term.wakePending = false := by
      have hnone : (s.banded band).term.wakePending = false := ((h.fits hf).start (by simp [State.acting, hold])).2
      simpa using State.testBandChange_wakePending hnone
    have hleft := hexamined.of_ok (TermOk.leaveStart hexamined hwake fun _ => hacts) (by simp) (by simp) (by simp)
    exact hleft.frame (by simp) (by simp) (by simp)
  next => exact hexamined.of_ok (TermOk.terminalBandChange hexamined _ fun _ => hacts) (by simp) (by simp) (by simp)

theorem TermHolds.evaluated : TermHolds C F s.evaluated := by
  have hcounted : TermHolds C F { s with batt := { s.batt with evalCount := 0 } } := h.frame rfl rfl rfl
  unfold State.evaluated
  dsimp only
  (repeat' split)
  · exact hcounted
  · exact hcounted
  · exact hcounted
  · exact (hcounted.setBand _ (newBand_ne_unrated _ _ _)).raiseCarry

theorem TermHolds.testSample (voltage : Nat) (current : Int) : TermHolds C F (s.testSample voltage current) := by
  have hgoes (c : TestContext) : TermHolds C F (s.withContext c) := h.frame rfl rfl rfl
  have hcollapse (c : TestContext) : TermHolds C F (s.collapse c) := by
    refine TermHolds.endTest ?_
    exact h.frame rfl rfl rfl
  unfold State.testSample
  (repeat' split)
  · exact h
  · exact h.abortTest _
  · exact hgoes _
  · exact h
  · exact hgoes _
  · exact hcollapse _
  · exact hgoes _
  · exact h
  · exact hgoes _
  · exact h

theorem TermHolds.converterSample (voltage current : Nat) : TermHolds C F (s.converterSample voltage current) := by
  have hwindow : TermHolds C F (s.riserSampled voltage) := h.frame rfl rfl rfl
  have hmode : TermHolds C F (s.modeSampled voltage current) := by
    unfold State.modeSampled
    dsimp only
    split
    · (repeat' split)
      · exact hwindow.enterRun
      · exact hwindow.frame (by simp) (by simp) (by simp)
      · exact hwindow
    · split
      · exact hwindow.frame (by simp [State.ramp]) (by simp [State.ramp]) (by simp [State.ramp])
      · exact hwindow.leaveRun _
    · split
      · exact hwindow.enterRun
      · exact hwindow
    · exact hwindow
    · exact hwindow
  rw [State.converterSample_eq]
  exact hmode.frame rfl rfl rfl

theorem TermHolds.measured (tb : TimeBase) (m : Samples) : TermHolds C F (s.measured tb m) := by
  have hoffered : TermHolds C F (s.offered tb m) := h.frame rfl rfl rfl
  rw [State.measured_eq]
  exact ((hoffered.testSample _ _).converterSample _ _).raiseCarry

/-! ### Demand, ready line, timers -/

/-- A newly taken level has the idle timer run at IDLE alone (R143). -/
theorem TermHolds.idleTaken {t : State} (hterm : t.term = { s.term with demand := s.term.candidate })
    (hne : s.term.candidate ≠ s.term.demand) (hmains : t.supply.mains = s.supply.mains) (hband : t.batt.band = s.batt.band) :
    TermHolds C F t.testAtDemand.idleAtDemand := by
  have hlevel : t.term.demand = s.term.candidate := by rw [hterm]
  have hacting : t.acting = s.acting := by simp [State.acting, hband]
  have hcount : C → t.term.retryCount ≤ 1 := by rw [hterm]; exact h.count
  by_cases hidle : s.term.candidate = .idle
  · have hnotIdle : s.term.demand ≠ .idle := fun hd => hne (hidle.trans hd.symm)
    have htaken : TermHolds C F t := by
      refine .intro hcount fun hf => ?_
      rw [hterm, hacting]
      obtain ⟨fboot, fretry, ftimer, fwake, fstart⟩ := h.fits hf
      exact ⟨fboot, fretry, fun hi => absurd (ftimer hi).2.2 hnotIdle, fwake, fstart⟩
    have hstays : t.testAtDemand = t := by simp [State.testAtDemand, hlevel, hidle]
    rw [hstays]
    unfold State.idleAtDemand
    (repeat' split)
    next hrun =>
      refine .intro htaken.count fun hf => ?_
      obtain ⟨fboot, fretry, -, fwake, fstart⟩ := htaken.fits hf
      exact ⟨fboot, fretry, fun _ => ⟨hrun.1, htaken.idles hrun.2 (hlevel.trans hidle)⟩, fwake, fstart⟩
    next => exact htaken
    next hn => exact absurd (hlevel.trans hidle) hn
  · have htaken : TermOk C F True (t.acting = true) t := by
      refine ⟨hcount, fun hf => ?_, fun _ _ => trivial, id⟩
      have hfits := (h.fits hf).mono (fun _ => trivial) id
      rw [hterm, hacting]
      obtain ⟨fboot, fretry, ftimer, fwake, fstart⟩ := hfits
      exact ⟨fboot, fretry, ftimer, fwake, fstart⟩
    have htested : TermOk C F True (t.acting = true) t.testAtDemand := by
      unfold State.testAtDemand
      split
      · exact htaken.abortTest _
      · exact htaken.abortTest _
      · exact htaken
      · exact htaken
    have hkept : t.testAtDemand.term.demand = t.term.demand ∧ t.testAtDemand.batt.band = t.batt.band := by
      unfold State.testAtDemand
      split <;> simp [State.abortTest_band]
    have hstill : t.testAtDemand.term.demand ≠ .idle := by rw [hkept.1, hlevel]; exact hidle
    unfold State.idleAtDemand
    rw [if_neg hstill]
    refine .intro htested.count fun hf => ?_
    obtain ⟨fboot, fretry, -, fwake, fstart⟩ := htested.fits hf
    exact ⟨fboot, fretry, by simp, fwake, by simpa [State.acting, hkept.2] using fstart⟩

/-- What a level requests, by the terminal's state (R138, R141). -/
theorem TermHolds.demandWakes (ha : s.acting = true) : TermHolds C F s.demandWakes := by
  have hok {t : State} (ht : TermOk C F (s.supply.mains = .absent ∧ s.term.demand = .idle) (s.acting = true) t)
      (hmains : t.supply.mains = s.supply.mains) (hdemand : t.term.demand = s.term.demand) (hband : t.batt.band = s.batt.band) :
      TermHolds C F t := h.of_ok ht hmains hdemand hband
  have hrequest (hm : s.term.mode = .hold ∨ s.term.mode = .off) : TermHolds C F s.requestWake :=
    h.of_ok (TermOk.requestWake h (fun _ => hm) fun _ => ha) (by simp) (by simp) (by simp)
  unfold State.demandWakes
  dsimp only
  split
  next hm =>
    split
    · exact h
    · exact hrequest (.inl hm)
  next hm =>
    split
    · split
      · exact h
      · exact hrequest (.inr hm)
    · have hstopped : TermHolds C F { s with term := { s.term with retryWait := none } } := .intro h.count fun hf => by
        obtain ⟨fboot, -, ftimer, fwake, fstart⟩ := h.fits hf
        exact ⟨fboot, by simp, ftimer, fwake, fstart⟩
      exact hstopped.of_ok (TermOk.requestWake hstopped (fun _ => .inr hm) fun _ => ha) (by simp) (by simp) (by simp)
    · exact h
    · exact h
  next hm =>
    have hzero : TermHolds C F { s with term := { s.term with retryCount := 0 } } := .intro (fun _ => Nat.zero_le _) fun hf => by
      obtain ⟨fboot, fretry, ftimer, fwake, fstart⟩ := h.fits hf
      exact ⟨fboot, fretry, ftimer, fwake, fstart⟩
    split
    · exact hzero.of_ok (TermOk.makeWake hzero fun _ => ha) (by simp) (by simp) (by simp)
    · refine .intro (fun _ => Nat.zero_le _) fun hf => ?_
      obtain ⟨fboot, fretry, ftimer, -, -⟩ := h.fits hf
      simp only [hm] at fboot fretry ftimer
      refine ⟨by simpa using fboot, fun hr => ?_, fun hi => ?_, fun _ => .inr rfl, fun hn => absurd ha hn⟩
      · simpa using fretry hr
      · simpa using ftimer hi
  next => exact h
  next => exact h

theorem TermHolds.demandTaken (hstood : s.demandStood = true) : TermHolds C F s.demandTaken := by
  have hne : s.wakeUp.term.candidate ≠ s.wakeUp.term.demand := by
    simp only [State.demandStood, Bool.and_eq_true, decide_eq_true_eq] at hstood
    simpa using hstood.1
  unfold State.demandTaken
  split
  next hacts =>
    have hidled : TermHolds C F (State.idleAtDemand (State.testAtDemand { s.wakeUp with
        term := { s.wakeUp.term with demand := s.wakeUp.term.candidate } })) := h.wakeUp.idleTaken rfl hne rfl rfl
    refine ((TermHolds.demandWakes hidled ?_).terminalReacts).raiseCarry
    have hband (u : State) : u.testAtDemand.batt.band = u.batt.band := by
      unfold State.testAtDemand
      split <;> simp [State.abortTest_band]
    rw [← hacts]
    simp [State.acting, hband]
  next hacts =>
    refine .intro h.count fun hf => ?_
    obtain ⟨fboot, fretry, ftimer, fwake, fstart⟩ := h.fits hf
    refine ⟨fboot, fretry, fun hi => ?_, fwake, fstart⟩
    have hout := (fstart hacts).1
    simp [(ftimer hi).1] at hout

theorem TermHolds.bootReady : TermHolds C F s.bootReady := h.of_ok (TermOk.bootReady h) (by simp) (by simp) (by simp)

/-- The loss of ready in ACTIVE is a new boot (R142). -/
theorem TermHolds.linkLost (hmode : s.term.mode = .active) : TermHolds C F s.linkLost := by
  have hwake (hf : F) : s.term.wakePending = false := by
    cases hw : s.term.wakePending with
    | false => rfl
    | true =>
      have := (h.fits hf).wake hw
      simp [hmode] at this
  have hact (hf : F) : s.acting = true := (TermOk.of_running h hf (by simp [hmode]) (by simp [hmode])).2
  have hfresh : TermHolds C F { s with term := { s.term with retryCount := 0, wakeMark := false } } := .intro (fun _ => Nat.zero_le _) fun hf => by
    obtain ⟨fboot, fretry, ftimer, fwake, fstart⟩ := h.fits hf
    exact ⟨fboot, fretry, ftimer, fwake, fstart⟩
  have hboots : TermHolds C F (State.enterBooting { s with term := { s.term with retryCount := 0, wakeMark := false } }) :=
    hfresh.of_ok (TermOk.enterBooting hfresh hwake hact) (by simp) (by simp) (by simp)
  exact hboots.abortTest _

/-- A boot that times out is retried, or is a FAULT; no wake is pending in BOOTING (R139, R141). -/
theorem TermHolds.bootTimesOut (hmode : s.term.mode = .booting) : TermHolds C F s.bootTimesOut := by
  have hwake (hf : F) : s.term.wakePending = false := by
    cases hw : s.term.wakePending with
    | false => rfl
    | true =>
      have := (h.fits hf).wake hw
      simp [hmode] at this
  have hnotIdle (hf : F) : s.term.idleTimer = none := by
    cases hi : s.term.idleTimer with
    | none => rfl
    | some t =>
      have := (h.fits hf).idle (by simp [hi])
      simp [hmode] at this
  have hrun (hf : F) := TermOk.of_running h hf (by simp [hmode]) (by simp [hmode])
  unfold State.bootTimesOut
  dsimp only
  split
  · refine .intro (fun _ => Nat.le_refl 1) fun hf => ?_
    exact ⟨by simp, fun _ => ⟨rfl, rfl⟩, by simp [State.handTimeout, hnotIdle hf], fun _ => .inr rfl, fun hn => absurd (hrun hf).2 hn⟩
  · refine .intro (fun _ => Nat.zero_le _) fun hf => ?_
    exact ⟨by simp, by simp [State.handTimeout, (hrun hf).1], by simp [State.handTimeout, hnotIdle hf], by simp, fun hn => absurd (hrun hf).2 hn⟩

/-- The retry wait's end requests the wake of the retried boot (R141). -/
theorem TermHolds.retryWaitEnds (hmode : s.term.mode = .off) (hreason : s.term.offReason = .retry) :
    TermHolds C F (State.requestWake { s with term := { s.term with retryWait := none } }) := by
  have hstopped : TermHolds C F { s with term := { s.term with retryWait := none } } := .intro h.count fun hf => by
    obtain ⟨fboot, -, ftimer, fwake, fstart⟩ := h.fits hf
    exact ⟨fboot, by simp, ftimer, fwake, fstart⟩
  have hact (hf : F) : s.acting = true := by
    refine Classical.byContradiction fun hn => ?_
    obtain ⟨⟨-, hr⟩ | hm, -⟩ := (h.fits hf).start hn
    · simp [hreason] at hr
    · simp [hmode] at hm
  exact hstopped.of_ok (TermOk.requestWake hstopped (fun _ => .inr hmode) hact) (by simp) (by simp) (by simp)

/-- The idle timer ends in HOLD, or in a hold deferred to the end of a test (R143). -/
theorem TermHolds.idleExpires (hmode : s.term.mode = .active) : TermHolds C F s.idleExpires := by
  have hrun (hf : F) := TermOk.of_running h hf (by simp [hmode]) (by simp [hmode])
  unfold State.idleExpires
  split
  · refine .intro h.count fun hf => ?_
    obtain ⟨fboot, fretry, -, fwake, fstart⟩ := h.fits hf
    exact ⟨fboot, fretry, by simp, fwake, fstart⟩
  · refine TermHolds.raiseCarry ?_
    exact h.of_ok (TermOk.enterHold h (fun hf => (hrun hf).1) fun hf => (hrun hf).2) rfl rfl rfl

/-- A command keeps timers, pending wake and retry count of the terminal where they are to be. -/
theorem TermHolds.effect (c : Instr) : TermHolds C F (effect c s) := by
  have hask (t : State) (ht : TermHolds C F t) : TermHolds C F t.askSleep :=
    ht.frame (by simp) (by rw [State.askSleep_supply]) (by simp)
  cases c with
  | supplyDipReset =>
    refine effect_keeps hask rfl h ?_
    refine .intro (fun _ => Nat.zero_le _) fun _ => .fresh ?_ rfl rfl rfl rfl
    dsimp only [State.inReset]
    split <;> simp
  | retainedStoreLoss =>
    simp only [Machine.effect, exec, execRetainedStoreLoss]
    split
    · exact .intro (fun _ => Nat.zero_le _) fun _ => .fresh (.inl ⟨rfl, rfl⟩) rfl rfl rfl rfl
    · exact h
  | start p =>
    simp only [Machine.effect, exec, execStart]
    split
    · refine .intro (fun _ => Nat.zero_le _) fun _ => .fresh ?_ rfl rfl rfl rfl
      dsimp only [State.started]
      by_cases hfault : (decide (s.supply.cause = .dip) && decide (s.term.mode = .fault)) = true <;> simp [hfault]
    · exact h
  | mainsFail => exact effect_keeps hask rfl h (by split; { exact h.mainsFails }; { exact h })
  | mainsReturn => exact effect_keeps hask rfl h (by split; { exact h.mainsReturns }; { exact h })
  | openingFrame o => exact effect_keeps hask rfl h (by split; { exact h.openingCompletes o }; { exact h })
  | notice n => exact effect_keeps hask rfl h (by split; { exact h.noticeCompletes n }; { exact h })
  | shareComputationComplete => exact effect_keeps hask rfl h (by split; { exact h.computationCompletes }; { exact h })
  | loweringPoint | raisingPoint =>
    refine effect_keeps hask rfl h ?_
    (repeat' split)
    · refine TermHolds.raiseCarry (TermHolds.runPoints ?_)
      exact h.frame rfl rfl rfl
    · exact h.frame rfl rfl rfl
    · exact h
  | roundAgeLimit => exact effect_keeps hask rfl h (by split; { exact h.losesReference }; { exact h })
  | frameError =>
    refine effect_keeps hask rfl h ?_
    split
    · exact h
    · exact h.takeError _
  | dominantTimeout =>
    refine effect_keeps hask rfl h ?_
    split
    · refine TermHolds.readConfinement ?_
      exact h.frame rfl rfl rfl
    · exact h
  | measurementEvent m =>
    refine effect_keeps hask rfl h ?_
    (repeat' split)
    · exact h
    · exact h.measured _ _
    · exact h
  | bandEvaluation => exact effect_keeps hask rfl h (by split; { exact h.evaluated }; { exact h })
  | testDone =>
    refine effect_keeps hask rfl h ?_
    (repeat' split)
    · exact h
    · refine TermHolds.raiseCarry (h.endTest.frame ?_ ?_ ?_)
      all_goals
        unfold State.resultOf
        split <;> rfl
    · exact h
  | persistLatch =>
    refine effect_keeps hask rfl h ?_
    split
    · refine TermHolds.leaveRun ?_ _
      exact h.frame rfl rfl rfl
    · exact h
  | intervalTimerExpiry =>
    refine effect_keeps hask rfl h ?_
    split
    · exact h.intervalBoundary.raiseCarry
    · exact h
  | riserHighLatch =>
    refine effect_keeps hask rfl h ?_
    dsimp only
    split
    · refine TermHolds.leaveRun ?_ _
      exact h.frame rfl rfl rfl
    · exact h.frame rfl rfl rfl
  | demandLinesChange l =>
    refine effect_keeps hask rfl h ?_
    split
    · exact h
    · exact h.same ⟨rfl, rfl, rfl, rfl, rfl, rfl, rfl, rfl, rfl, rfl⟩
  | demandLevelTaken =>
    refine effect_keeps hask rfl h ?_
    split
    next hstood => exact h.demandTaken hstood
    next => exact h
  | readySeen =>
    refine effect_keeps hask rfl h ?_
    have hwoken : TermHolds C F (if s.pins.ready then s else s.wakeUp) := by split; { exact h }; { exact h.wakeUp }
    generalize (if s.pins.ready then s else s.wakeUp) = w at hwoken
    refine TermHolds.raiseCarry (TermHolds.bootReady ?_)
    exact hwoken.frame rfl rfl rfl
  | readyLost =>
    refine effect_keeps hask rfl h ?_
    have hwoken : TermHolds C F (if s.pins.ready then s.wakeUp else s) := by split; { exact h.wakeUp }; { exact h }
    generalize (if s.pins.ready then s.wakeUp else s) = w at hwoken
    have hlost : TermHolds C F { w with pins := { w.pins with ready := false } } := hwoken.frame rfl rfl rfl
    dsimp only
    split
    next hmode => exact hlost.linkLost hmode
    next => exact hlost
  | bootTimeout =>
    refine effect_keeps hask rfl h ?_
    split
    · exact h
    · split
      next hdue => exact h.bootTimesOut hdue.1
      next => exact h
  | retryWaitExpiry =>
    refine effect_keeps hask rfl h ?_
    split
    · exact h
    · split
      next hdue => exact (h.retryWaitEnds hdue.1 hdue.2.1).raiseCarry
      next => exact h
  | idleTimerExpiry =>
    refine effect_keeps hask rfl h ?_
    split
    · exact h
    · split
      next hdue => exact h.idleExpires hdue.1
      next => exact h
  | keepAliveTime =>
    refine effect_keeps hask rfl h ?_
    split
    · exact h
    next t _ =>
      have hnext : TermHolds C F { s with term := { s.term with keepAlive := some (t + sec 1200) } } :=
        h.same ⟨rfl, rfl, rfl, rfl, rfl, rfl, rfl, rfl, rfl, rfl⟩
      dsimp only
      split
      · split
        next hwake =>
          exact (hnext.of_ok (TermOk.requestWake hnext (fun _ => .inl hwake.2) fun _ => hwake.1) (by simp) (by simp) (by simp)).raiseCarry
        next => exact hnext
      · exact h
  | roundTimerLead | lineEdgeWake =>
    refine h.frame ((effect_sameBut _ s).term (by simp [touched])) ?_ ?_
    · exact effect_proj (·.supply.mains) (by simp) rfl (by (repeat' split) <;> simp)
    · exact effect_proj (·.batt.band) (by simp) rfl (by (repeat' split) <;> simp)
  | joinTimerExpiry | closeEvent | errorDelimiterEnd | lineStuck | startBitEdge | settleEnd =>
    refine h.frame ((effect_sameBut _ s).term (by simp [touched])) ((effect_sameBut _ s).supply_fields (by simp [touched])).2.2.1 ?_
    refine effect_proj (·.batt.band) (by simp) rfl ?_
    (repeat' split) <;> simp [State.joinExpires, State.settleEnds, State.delimiterEnds]
  | fastOscillatorStable | mainsSenseChange | enterSleep =>
    refine h.frame ((effect_sameBut _ s).term (by simp [touched])) ?_ (by rw [(effect_sameBut _ s).batt (by simp [touched])])
    exact effect_proj (·.supply.mains) (by simp) rfl (by (repeat' split) <;> simp [State.fallAsleep])
  | _ =>
    exact h.frame ((effect_sameBut _ s).term (by simp [touched])) ((effect_sameBut _ s).supply_fields (by simp [touched])).2.2.1
      (by rw [(effect_sameBut _ s).batt (by simp [touched])])

end

/-- Settles O59: no move of the terminal takes a timer or a pending wake into a state that its rule does not name. -/
theorem stepKeepsTerminalSafe : Obligations.StepKeepsTerminalSafe := by
  intro s t hsafe hstep
  have hstart : TermHolds False True s := .intro False.elim fun _ => (terminalSafe_iff s).mp hsafe
  have hend : TermHolds False True t := step_keeps (P := TermHolds False True) (fun s q h => h.frame rfl rfl rfl)
    (fun s h => h.frame (by simp) (by simp) (by simp)) (fun c s h => h.effect c) hstart hstep
  exact (terminalSafe_iff t).mpr (hend.fits trivial)

end Sys2Proof.Machine

end

section
/-! ## The counts of the state tables -/

namespace Sys2Proof.Machine

/-! ### The holdovers of the peer table -/

/-- The holdovers of a record lie in R25's range. -/
def RecordRange (r : PeerRecord) : Prop := SlotRange r.feed ∧ SlotRange r.charge

theorem SlotRange.none : SlotRange Option.none := by simp [SlotRange]

theorem slotOf_range (n : Notice) : SlotRange (some (slotOf n)) := by simp [SlotRange, slotOf]

theorem RecordRange.recorded {r : PeerRecord} (h : RecordRange r) (n : Notice) (tag : Option (BitVec 8)) : RecordRange (r.recorded n tag) := by
  obtain ⟨hfeed, hcharge⟩ := h
  unfold PeerRecord.recorded
  dsimp only
  split
  · refine ⟨hfeed, ?_⟩
    dsimp only
    split
    · exact .none
    · exact slotOf_range n
  · exact ⟨slotOf_range n, hcharge⟩

theorem SlotRange.unheard {o : Option Slot} (h : SlotRange o) : SlotRange (o.map Slot.unheard) := by
  cases o <;> simp_all [SlotRange, Slot.unheard]

theorem SlotRange.settled {o : Option Slot} (h : SlotRange o) : SlotRange (o.bind Slot.settled) := by
  cases o with
  | none => exact .none
  | some x =>
    have hx : x.holdover ≤ 2 := h x rfl
    simp only [Option.bind_some, Slot.settled]
    (repeat' split)
    · simpa [SlotRange] using hx
    · simp only [SlotRange, Option.mem_def, Option.some.injEq, forall_eq']
      omega
    · exact .none

theorem mem_findRecord {a : Addr} {r : PeerRecord} {l : List (Addr × PeerRecord)} (h : findRecord a l = some r) : (a, r) ∈ l := by
  induction l with
  | nil => simp [findRecord] at h
  | cons e l ih =>
    obtain ⟨b, x⟩ := e
    simp only [findRecord] at h
    split at h
    · simp_all
    · simp [ih h]

theorem peersClosed_ranges : PeersClosed PeerRanges where
  empty := by simp [PeerRanges]
  record := by
    intro p h n tag e he
    obtain rfl | hold := mem_putRecord he
    · refine RecordRange.recorded ?_ n tag
      cases hf : findRecord n.addr p.records with
      | none => exact ⟨.none, .none⟩
      | some r => exact h _ (mem_findRecord hf)
    · exact h e hold
  remove := fun h _ e he => h e (List.mem_filter.mp he).1
  examine := by
    intro p h number e he
    obtain ⟨f, hf, rfl⟩ := List.mem_map.mp he
    split
    · exact h f hf
    · exact ⟨(h f hf).1.unheard, (h f hf).2.unheard⟩
  assemble := by
    intro p h e he
    obtain ⟨f, hf, rfl⟩ := List.mem_map.mp (List.mem_filter.mp he).1
    exact ⟨(h f hf).1.settled, (h f hf).2.settled⟩

/-! ### The counts of the line controller -/

theorem sat255_le (n : Nat) : sat255 n ≤ 255 := by
  unfold sat255
  omega

section
variable {l : LineState} (h : LineRanges l)
include h

theorem LineRanges.withQueue (q : List Frame) : LineRanges (l.withQueue q) := by
  obtain ⟨htx, hrx, hun, hus, hf, hrest⟩ := h
  refine ⟨htx, hrx, hun, hus, ?_, hrest⟩
  dsimp only [LineState.withQueue]
  split <;> omega

theorem LineRanges.dropTo (q : List Frame) : LineRanges (l.dropTo q) := by
  obtain ⟨htx, hrx, hun, -, hrest⟩ := h.withQueue q
  exact ⟨htx, hrx, hun, sat255_le _, hrest⟩

theorem LineRanges.placeOpening (o : Opening) : LineRanges (l.placeOpening o) := by
  unfold LineState.placeOpening
  split
  · exact h
  · exact h.withQueue _

theorem LineRanges.wentOffline : LineRanges l.wentOffline := by
  obtain ⟨htx, hrx, hun, hus, -, hrec, -, -, -, hdom, hclear⟩ := h.dropTo []
  exact ⟨htx, hrx, hun, hus, Nat.zero_le _, hrec, Nat.zero_le _, Nat.zero_le _, Nat.zero_le _, hdom, hclear⟩

theorem LineRanges.reread : LineRanges l.reread := by
  unfold LineState.reread
  (repeat' split)
  · exact h
  · exact h.wentOffline
  · exact h
  · exact h
  · exact h

theorem LineRanges.countedError (r : Role) : LineRanges (l.countedError r) := by
  obtain ⟨htx, hrx, hrest⟩ := h
  cases r with
  | none => exact ⟨htx, hrx, hrest⟩
  | transmitter => exact ⟨sat255_le _, hrx, hrest⟩
  | receiver => exact ⟨htx, sat255_le _, hrest⟩

theorem LineRanges.ended : LineRanges l.ended := by
  obtain ⟨htx, hrx, hun, hus, hf, hrest⟩ := h
  have hheard := sat255_le (l.unheard + 1)
  refine ⟨?_, ?_, ?_, hus, ?_, hrest⟩
  all_goals
    dsimp only [LineState.ended]
    split <;> omega

theorem LineRanges.errored : LineRanges l.errored := LineRanges.reread (LineRanges.countedError (by exact h) _)

theorem LineRanges.woken : LineRanges l.woken := by
  obtain ⟨htx, hrx, hun, hus, hf, -, hruns, hbits, -, hrest⟩ := h
  exact ⟨htx, hrx, hun, hus, hf, Nat.zero_le _, hruns, hbits, Nat.zero_le _, hrest⟩

theorem LineRanges.afterDelimiter : LineRanges l.afterDelimiter := by
  unfold LineState.afterDelimiter
  dsimp only
  split
  · obtain ⟨htx, hrx, hun, hus, -, hrest⟩ := h.dropTo l.queue.tail
    exact ⟨htx, hrx, hun, sat255_le _, Nat.zero_le _, hrest⟩
  · exact h

theorem LineRanges.stuckLine : LineRanges l.stuckLine := by
  obtain ⟨htx, hrx, hun, hus, hf, hrec, hruns, -, -, hdom, -⟩ := h.dropTo []
  exact ⟨htx, hrx, hun, hus, hf, hrec, hruns, Nat.zero_le _, Nat.zero_le _, hdom, Nat.zero_le _⟩

/-! ### Samples -/

theorem LineRanges.phaseSample (b : Level) : LineRanges (l.phaseSample b) := by
  obtain ⟨htx, hrx, hun, hus, hf, hrec, hrest⟩ := h
  unfold LineState.phaseSample
  split
  · refine ⟨htx, hrx, hun, hus, hf, ?_, hrest⟩
    dsimp only
    split <;> omega
  · exact ⟨htx, hrx, hun, hus, hf, hrec, hrest⟩
  · split <;> exact ⟨htx, hrx, hun, hus, hf, hrec, hrest⟩
  · exact ⟨htx, hrx, hun, hus, hf, hrec, hrest⟩
  · exact ⟨htx, hrx, hun, hus, hf, hrec, hrest⟩

theorem LineRanges.stuckSample (b : Level) : LineRanges (l.stuckSample b) := by
  obtain ⟨htx, hrx, hun, hus, hf, hrec, hruns, hbits, htime, -, hclear⟩ := h
  cases b with
  | dominant => exact ⟨htx, hrx, hun, hus, hf, hrec, hruns, hbits, htime, Nat.min_le_left _ _, Nat.zero_le _⟩
  | recessive =>
    refine ⟨htx, hrx, hun, hus, hf, hrec, hruns, hbits, htime, Nat.zero_le _, ?_⟩
    dsimp only [LineState.stuckSample]
    split <;> omega

theorem LineRanges.recoverySample (b : Level) : LineRanges (l.recoverySample b) := by
  obtain ⟨htx, hrx, hun, hus, hf, hrec, hruns, hbits, hrest⟩ := h
  unfold LineState.recoverySample
  (repeat' split)
  · exact ⟨htx, hrx, hun, hus, hf, hrec, hruns, Nat.zero_le _, hrest⟩
  · exact ⟨htx, hrx, hun, hus, hf, hrec, Nat.min_le_left _ _, Nat.zero_le _, hrest⟩
  next hfew => exact ⟨htx, hrx, hun, hus, hf, hrec, hruns, by dsimp only; omega, hrest⟩
  · exact ⟨htx, hrx, hun, hus, hf, hrec, hruns, hbits, hrest⟩

theorem LineRanges.sample (b : Level) : LineRanges (l.sample b) := ((h.phaseSample b).stuckSample b).recoverySample b

theorem LineRanges.edgeIntegrating (e : Bool) : LineRanges (l.edgeIntegrating e) := by
  unfold LineState.edgeIntegrating
  split
  · obtain ⟨htx, hrx, hun, hus, hf, -, hrest⟩ := h
    exact ⟨htx, hrx, hun, hus, hf, Nat.zero_le _, hrest⟩
  · exact h

theorem LineRanges.countDrive : LineRanges l.countDrive := by
  obtain ⟨htx, hrx, hun, hus, hf, hrec, hruns, hbits, -, hrest⟩ := h
  refine ⟨htx, hrx, hun, hus, hf, hrec, hruns, hbits, ?_, hrest⟩
  dsimp only [LineState.countDrive]
  split
  · exact Nat.min_le_left _ _
  · exact Nat.zero_le _

end

/-! ### What the commands do to the counts of the line controller -/

section
variable {s : State} (h : LineRanges s.line)
include h

theorem LineRanges.congr {t : State} (ht : t.line = s.line) : LineRanges t.line := ht ▸ h

theorem LineRanges.offer : LineRanges s.offer.line := by
  rw [State.offer_line]
  split <;> exact h

theorem LineRanges.handleExpiry : LineRanges s.handleExpiry.line := by
  rw [State.handleExpiry_line]
  split
  · refine LineRanges.offer ?_
    exact h.placeOpening _
  · exact h

theorem LineRanges.closeRound : LineRanges s.closeRound.line := by
  rw [State.closeRound_line]
  exact h.dropTo _

theorem LineRanges.closedIfDue : LineRanges s.closedIfDue.line := by
  unfold State.closedIfDue
  split
  · exact h.closeRound
  · exact h

theorem LineRanges.frameEnded : LineRanges s.frameEnded.line := by
  rw [State.frameEnded_eq]
  split
  · exact h.closedIfDue.handleExpiry
  · exact h.closedIfDue

theorem LineRanges.completeFrame : LineRanges s.completeFrame.line := by
  rw [State.completeFrame_line]
  exact h.ended.reread

theorem LineRanges.clash : LineRanges s.clash.line := by
  have hmuted : LineRanges s.mutedByClash.line := by
    unfold State.mutedByClash
    split
    · exact h
    · simpa [LineState.clearQueue] using h.dropTo []
  rw [State.clash_eq]
  exact hmuted.frameEnded.congr (by simp)

theorem LineRanges.takeReference (o : Opening) : LineRanges (s.takeReference o).line := by
  have hline : LineRanges s.lineAtReference := by
    unfold State.lineAtReference
    split
    · exact (h.withQueue _).dropTo _
    · exact h.withQueue _
  rw [State.takeReference_line]
  split
  · exact hline.withQueue _
  · exact hline

theorem LineRanges.openingCompletes (o : Opening) : LineRanges (s.openingCompletes o).line := by
  have hc := h.completeFrame
  unfold State.openingCompletes
  dsimp only
  (repeat' split)
  · exact hc.clash
  · exact hc.frameEnded
  · rw [(State.settleRepeat_frame _).2.2.2.2.2.2.2.1]
    refine LineRanges.takeReference ?_ o
    exact hc
  · exact (hc.takeReference o).congr (by simp)

theorem LineRanges.noticeCompletes (n : Notice) : LineRanges (s.noticeCompletes n).line := by
  have hc := h.completeFrame
  unfold State.noticeCompletes
  dsimp only
  split
  · exact hc.clash
  · refine LineRanges.frameEnded ?_
    simpa using hc

theorem LineRanges.delimiterEnds : LineRanges s.delimiterEnds.line := by
  rw [State.delimiterEnds_eq]
  refine LineRanges.frameEnded ?_
  exact h.afterDelimiter

theorem LineRanges.takeError (k : ErrorKind) : LineRanges (s.takeError k).line := by
  rw [State.takeError_line]
  obtain ⟨htx, hrx, hun, hus, hf, hrest⟩ := h.errored
  refine ⟨htx, hrx, hun, hus, ?_, hrest⟩
  dsimp only
  split <;> omega

theorem LineRanges.wakeUp : LineRanges s.wakeUp.line := by
  rw [State.wakeUp_line_eq]
  split
  · exact h.woken
  · exact h

theorem LineRanges.lineCycle (b : BitPos) : LineRanges (s.lineCycle b).line := by
  have hcounted : LineRanges s.holdDriver.line.countDrive := by
    refine LineRanges.countDrive ?_
    rw [State.holdDriver_eq]
    exact h
  have hquantum (u : State) (hu : LineRanges u.line) : LineRanges (u.quantumEnds b).line := by
    have hsampled : LineRanges (u.sampledLine b) := by
      unfold State.sampledLine
      dsimp only
      split
      · refine LineRanges.sample ?_ _
        exact hu.edgeIntegrating _
      · exact hu.edgeIntegrating _
    rw [State.quantumEnds_eq]
    split <;> exact hsampled
  unfold State.lineCycle
  dsimp only
  split
  · exact hquantum _ hcounted
  · exact hcounted

theorem LineRanges.tick : LineRanges s.tick.line := by
  unfold State.tick
  dsimp only
  split
  · split
    · exact h
    · refine LineRanges.lineCycle ?_ _
      exact h
  · exact h

theorem LineRanges.effect (c : Instr) : LineRanges (effect c s).line := by
  have hkeeps {c : Instr} {f : State → State} (hc : exec c s = .next (whenRunning f s)) (hf : LineRanges (f s).line) :
      LineRanges (Machine.effect c s).line :=
    effect_keeps (P := fun t => LineRanges t.line) (fun t ht => by simpa using ht) hc h hf
  cases c with
  | supplyDipReset => exact hkeeps rfl (by simp [LineRanges, State.inReset])
  | start p =>
    simp only [Machine.effect, exec, execStart]
    split
    · simp [LineRanges, State.started]
    · exact h
  | fastOscillatorStable =>
    refine hkeeps rfl ?_
    split
    · split
      · rw [State.oscillatorStable_line]
        obtain ⟨htx, hrx, hun, hus, hf, -, hrest⟩ := h
        exact ⟨htx, hrx, hun, hus, hf, Nat.zero_le _, hrest⟩
      · exact h
    · exact h
    · exact h
  | mainsFail | mainsReturn =>
    refine hkeeps rfl ?_
    split
    · simpa using h.wakeUp
    · exact h
  | openingFrame o => exact hkeeps rfl (by split; { exact h.openingCompletes o }; { exact h })
  | notice n => exact hkeeps rfl (by split; { exact h.noticeCompletes n }; { exact h })
  | roundTimerExpiry => exact hkeeps rfl (by split; { exact h.handleExpiry }; { exact h })
  | roundTimerLead =>
    refine hkeeps rfl ?_
    split
    · exact h.wakeUp.congr (by simp)
    · exact h
  | lineEdgeWake =>
    refine hkeeps rfl ?_
    (repeat' split)
    · exact h.wakeUp
    · exact h
    · exact h
  | closeEvent => exact hkeeps rfl (by split; { exact h.closeRound }; { exact h })
  | lineIdle =>
    refine hkeeps rfl ?_
    split
    · refine LineRanges.offer ?_
      exact h
    · exact h
  | loseArbitration => exact hkeeps rfl (by split <;> exact h)
  | frameError =>
    refine hkeeps rfl ?_
    split
    · exact h
    · exact h.takeError _
  | errorDelimiterEnd => exact hkeeps rfl (by split; { exact h.delimiterEnds }; { exact h })
  | extraWaitExpiry =>
    refine hkeeps rfl ?_
    (repeat' split)
    · refine LineRanges.offer ?_
      exact h
    · exact h
    · exact h
    · exact h
  | dominantTimeout =>
    refine hkeeps rfl ?_
    split
    · rw [State.readConfinement_line]
      obtain ⟨htx, hrx, hun, hus, hf, hrec, hruns, hbits, -, hrest⟩ := h
      exact LineRanges.reread ⟨by dsimp only; omega, hrx, hun, hus, hf, hrec, hruns, hbits, Nat.zero_le _, hrest⟩
    · exact h
  | lineStuck =>
    refine hkeeps rfl ?_
    split
    · rw [State.getsStuck_eq]
      refine LineRanges.closedIfDue ?_
      exact h.stuckLine
    · exact h
  | lineStuckClear =>
    refine hkeeps rfl ?_
    split
    · obtain ⟨htx, hrx, hun, hus, hf, -, hruns, -, htime, hdom, -⟩ := h
      exact ⟨htx, hrx, hun, hus, hf, Nat.zero_le _, hruns, Nat.zero_le _, htime, hdom, Nat.zero_le _⟩
    · exact h
  | returnFromOffline =>
    refine hkeeps rfl ?_
    split
    · refine LineRanges.offer ?_
      obtain ⟨-, -, hun, hus, hf, hrec, -, -, hrest⟩ := h
      simp only [State.raiseCarry_frame]
      exact ⟨Nat.zero_le _, Nat.zero_le _, hun, hus, hf, hrec, Nat.zero_le _, Nat.zero_le _, hrest⟩
    · exact h
  | demandLevelTaken =>
    refine hkeeps rfl ?_
    split
    · rw [State.demandTaken_line]
      split
      · exact h.wakeUp
      · exact h
    · exact h
  | readySeen =>
    refine hkeeps rfl ?_
    have hwoken : LineRanges (if s.pins.ready then s else s.wakeUp).line := by split; { exact h }; { exact h.wakeUp }
    generalize (if s.pins.ready then s else s.wakeUp) = w at hwoken
    simpa using hwoken
  | readyLost =>
    refine hkeeps rfl ?_
    have hwoken : LineRanges (if s.pins.ready then s.wakeUp else s).line := by split; { exact h.wakeUp }; { exact h }
    generalize (if s.pins.ready then s.wakeUp else s) = w at hwoken
    dsimp only
    split
    · simpa using hwoken
    · exact hwoken
  | enterSleep =>
    refine hkeeps rfl ?_
    split
    · rw [State.fallAsleep_line]
      obtain ⟨htx, hrx, hun, hus, hf, hrec, hruns, hbits, -, hrest⟩ := h
      exact ⟨htx, hrx, hun, hus, hf, hrec, hruns, hbits, Nat.zero_le _, hrest⟩
    · exact h
  | startBitEdge =>
    have hedge {u : State} (hu : LineRanges u.line) : LineRanges u.edgeBegins.line := by
      rw [State.edgeBegins_line]
      exact hu
    refine hkeeps rfl ?_
    (repeat' split)
    · exact hedge h
    · exact hedge h
    · exact hedge h.delimiterEnds
    · exact h
    · exact h
    · exact h
    · exact h
  | _ => exact h.congr ((effect_sameBut _ s).line (by simp [touched]))

end

/-! ### The window of the riser voltage -/

section
variable (s : State)

@[simp] theorem State.closeRound_window : s.closeRound.demand.window = s.demand.window := by simp

@[simp] theorem State.closedIfDue_window : s.closedIfDue.demand.window = s.demand.window := by
  unfold State.closedIfDue
  split <;> simp

@[simp] theorem State.frameEnded_window : s.frameEnded.demand.window = s.demand.window := by
  rw [State.frameEnded_eq]
  split <;> simp

@[simp] theorem State.clearStanding_window : s.clearStanding.demand.window = s.demand.window := by simp [State.clearStanding]

@[simp] theorem State.takeReference_window (o : Opening) : (s.takeReference o).demand.window = s.demand.window := by
  have htaken : (s.referenceTaken o).demand.window = s.demand.window := by
    simp [State.referenceTaken, State.referenceAdopted]
  rw [State.takeReference_eq]
  unfold State.pointsPending State.snapshotIfMember
  split
  · simpa [State.snapshot, State.freezeClaims] using htaken
  · exact htaken

@[simp] theorem State.clash_window : s.clash.demand.window = s.demand.window := by
  rw [State.clash_eq]
  unfold State.mutedByClash
  split <;> simp [State.enterMuted]

@[simp] theorem State.losesReference_window : s.losesReference.demand.window = s.demand.window := by simp [State.losesReference]

end

/-- A measurement event takes its riser sample into a window of 64 (R56, R111). -/
theorem State.measured_window (s : State) (tb : TimeBase) (m : Samples) :
    (s.measured tb m).demand.window = pushWindow 64 s.demand.window m.riserVoltage := by
  rw [State.measured_eq]
  simp [State.offered]

/-- The riser window grows by measurement events alone. -/
theorem effect_window (c : Instr) (s : State) (h : s.demand.window.length ≤ 64) : (effect c s).demand.window.length ≤ 64 := by
  have hkeeps {c : Instr} {f : State → State} (hc : exec c s = .next (whenRunning f s)) (hf : (f s).demand.window = s.demand.window) :
      (effect c s).demand.window.length ≤ 64 := by
    rw [effect_proj (·.demand.window) (by simp) hc hf]
    exact h
  cases c with
  | supplyDipReset =>
    exact effect_keeps (P := fun t => t.demand.window.length ≤ 64) (fun t ht => by simpa using ht) rfl h (Nat.zero_le _)
  | start p =>
    simp only [effect, exec, execStart]
    split
    · exact Nat.zero_le _
    · exact h
  | measurementEvent m =>
    refine effect_keeps (P := fun t => t.demand.window.length ≤ 64) (fun t ht => by simpa using ht) rfl h ?_
    (repeat' split)
    · exact h
    · rw [State.measured_window]
      exact pushWindow_length_le 64 _ _ h
    · exact h
  | openingFrame o =>
    refine hkeeps rfl ?_
    split
    · unfold State.openingCompletes
      dsimp only
      (repeat' split) <;> simp
    · rfl
  | notice n =>
    refine hkeeps rfl ?_
    split
    · unfold State.noticeCompletes
      dsimp only
      split <;> simp
    · rfl
  | closeEvent | roundAgeLimit => exact hkeeps rfl (by split <;> simp)
  | errorDelimiterEnd => exact hkeeps rfl (by split <;> simp [State.delimiterEnds_eq])
  | lineStuck => exact hkeeps rfl (by split <;> simp [State.getsStuck_eq])
  | startBitEdge =>
    refine hkeeps rfl ?_
    (repeat' split) <;> simp [State.delimiterEnds_eq]
  | _ =>
    rw [(effect_sameBut _ s).demand (by simp [touched])]
    exact h

/-! ### Every count -/

/-- Settles O60: block by block, a command writes a count only within its range. -/
theorem stepKeepsCountsInRange : Obligations.StepKeepsCountsInRange := by
  intro s t ⟨hline, hconv, hbatt, hwindow, hretry, hcarry, hpeers, hevents⟩ hlist hstep
  have htest : TestRanges t.test :=
    step_keeps (P := fun u => TestRanges u.test) (fun _ _ h => h) (fun u h => by simpa using h)
      (fun c u h => ((TestFollows.refl u).effect c).ranges h) ⟨hcarry, hevents, hlist⟩ hstep
  have hterm : TermHolds True False t :=
    step_keeps (P := TermHolds True False) (fun u q h => h.frame rfl rfl rfl) (fun u h => h.frame (by simp) (by simp) (by simp))
      (fun c u h => h.effect c) (.intro (fun _ => hretry) False.elim) hstep
  obtain ⟨hcarry', hevents', hlist'⟩ := htest
  refine ⟨⟨?_, ?_, ?_, ?_, hterm.count trivial, hcarry', ?_, hevents'⟩, hlist'⟩
  · exact step_keeps (P := fun u => LineRanges u.line) (fun _ _ h => h) (fun u h => h.tick) (fun c u h => h.effect c) hline hstep
  · exact step_keeps (P := fun u => ConverterRanges u.conv) (fun _ _ h => h) (fun u h => by simpa using h)
      (fun c u h => convClosed_ranges.effect h c) hconv hstep
  · exact step_keeps (P := fun u => BatteryRanges u.batt) (fun _ _ h => h) (fun u h => by simpa using h)
      (fun c u h => battClosed_ranges.effect h c) hbatt hstep
  · exact step_keeps (P := fun u => u.demand.window.length ≤ 64) (fun _ _ h => h) (fun u h => by simpa using h)
      (fun c u h => effect_window c u h) hwindow hstep
  · exact step_keeps (P := fun u => PeerRanges u.peers) (fun _ _ h => h) (fun u h => by simpa using h)
      (fun c u h => peersClosed_ranges.effect h c) hpeers hstep

end Sys2Proof.Machine

end

section
/-! ## The class-ordered fill -/

namespace Sys2Proof.Machine

/-! ### The class-ordered fill -/

theorem sum_map_zero {α : Type} (l : List α) : (l.map fun _ => 0).sum = 0 := by
  induction l with
  | nil => rfl
  | cons a l ih => rw [List.map_cons, List.sum_cons, ih]

theorem le_sum_of_mem {n : Nat} {l : List Nat} (h : n ∈ l) : n ≤ l.sum := by
  induction l with
  | nil => simp at h
  | cons m l ih =>
    rw [List.sum_cons]
    obtain rfl | hin := List.mem_cons.mp h
    · omega
    · have hle := ih hin
      omega

section
variable {view : List Claim}

@[simp] theorem serviceOf_map_nothing (c : ClaimClass) (cs : List ClaimClass) :
    serviceOf c (cs.map fun x => (x, Service.nothing)) = .nothing := by
  induction cs with
  | nil => rfl
  | cons a cs ih => simpa [serviceOf] using fun _ => ih

theorem request_le_classDemand {x : Claim} (hx : x ∈ view) : x.request ≤ classDemand view x.cls := by
  unfold classDemand
  exact le_sum_of_mem (List.mem_map.mpr ⟨x, List.mem_filter.mpr ⟨hx, by simp⟩, rfl⟩)

/-- What the first class of a fill gets. -/
theorem serviceOf_fill_self (a : ClaimClass) (cs : List ClaimClass) (r : Nat) : serviceOf a (fill view (a :: cs) r)
    = if classDemand view a = 0 then .nothing else if classDemand view a ≤ r then .inFull
      else if r = 0 then .nothing else .part r (recip (classDemand view a)) := by
  rw [fill]
  split
  · simp [serviceOf]
  · split
    · simp [serviceOf]
    · split <;> simp [serviceOf]

/-- What a later class of a fill gets: what the fill of the later classes gives it from what the first leaves. -/
theorem serviceOf_fill_of_ne {a c : ClaimClass} (h : c ≠ a) (cs : List ClaimClass) (r : Nat) : serviceOf c (fill view (a :: cs) r)
    = if classDemand view a ≤ r then serviceOf c (fill view cs (r - classDemand view a)) else .nothing := by
  rw [fill]
  by_cases hzero : classDemand view a = 0
  · simp [hzero, serviceOf, h]
  · by_cases hfits : classDemand view a ≤ r
    · simp [hzero, hfits, serviceOf, h]
    · by_cases hr : r = 0 <;> simp [hzero, hfits, hr, serviceOf, h]

/-- The service of a class by the sum of the classes before it (R41). -/
theorem serviceOf_fill {c : ClaimClass} {cs : List ClaimClass} (hc : c ∈ cs) (r : Nat) (hpos : 0 < classDemand view c) :
    let l := ((cs.takeWhile fun a => decide (a ≠ c)).map (classDemand view)).sum
    serviceOf c (fill view cs r) = if l + classDemand view c ≤ r then .inFull else if r ≤ l then .nothing
      else .part (r - l) (recip (classDemand view c)) := by
  induction cs generalizing r with
  | nil => simp at hc
  | cons a cs ih =>
    by_cases hca : c = a
    · subst hca
      rw [serviceOf_fill_self]
      simp [Nat.ne_of_gt hpos]
    · have htail : c ∈ cs := by simpa [hca] using hc
      have hac : a ≠ c := fun h => hca h.symm
      rw [serviceOf_fill_of_ne hca]
      simp only [List.takeWhile_cons, hac, ne_eq, not_false_eq_true, decide_true, if_true, List.map_cons, List.sum_cons]
      split
      next hfits =>
        rw [ih htail, ← Nat.sub_sub]
        grind
      next hshort => rw [if_neg (by omega), if_pos (by omega)]

/-- The grant of a claim of a served class, in the terms of its class's service (R41, R42). -/
theorem grantOf_eq {budget : Nat} {x : Claim} (hx : x ∈ view) (hserved : x.cls ≠ .standby) :
    let l := ((servedClasses.takeWhile fun a => decide (a ≠ x.cls)).map (classDemand view)).sum
    grantOf view budget x = if l + classDemand view x.cls ≤ budget then x.request else if budget ≤ l then 0
      else x.request * (budget - l) * recip (classDemand view x.cls) / 2 ^ 24 := by
  dsimp only
  have hmem : x.cls ∈ servedClasses := by
    cases h : x.cls <;> simp_all [servedClasses]
  have hle := request_le_classDemand hx
  unfold grantOf
  by_cases hpos : 0 < classDemand view x.cls
  · rw [serviceOf_fill hmem budget hpos]
    (repeat' split) <;> rfl
  · have hzero : x.request = 0 := by omega
    simp only [hzero]
    cases serviceOf x.cls (fill view servedClasses budget) <;> simp [grantUnder]

/-- A STANDBY claim is served by no class (R41). -/
theorem grantOf_standby {budget : Nat} {x : Claim} (h : x.cls = .standby) : grantOf view budget x = 0 := by
  have hnone (cs : List ClaimClass) (r : Nat) (hcs : ClaimClass.standby ∉ cs) : serviceOf .standby (fill view cs r) = .nothing := by
    induction cs generalizing r with
    | nil => rfl
    | cons a cs ih =>
      simp only [List.mem_cons, not_or] at hcs
      rw [serviceOf_fill_of_ne hcs.1, ih _ hcs.2, ite_self]
  unfold grantOf
  rw [h, hnone _ _ (by decide)]
  rfl

/-- A share of a remainder by the reciprocal of a class's sum: of a part of that sum, it is at most as much of the remainder (R42). -/
theorem share_le {n r d : Nat} (hn : n ≤ d) (hd : d ≤ 16383) : n * r * recip d / 2 ^ 24 ≤ r := by
  obtain rfl | hpos := Nat.eq_zero_or_pos d
  · simp [Nat.le_zero.mp hn]
  · have hrecip := recip_mul_le hpos hd
    refine Nat.div_le_of_le_mul ?_
    calc n * r * recip d ≤ d * r * recip d := Nat.mul_le_mul_right _ (Nat.mul_le_mul_right _ hn)
      _ = recip d * d * r := by grind
      _ ≤ 2 ^ 24 * r := Nat.mul_le_mul_right _ hrecip

theorem share_le_request {n r d : Nat} (hr : r ≤ d) (hd : d ≤ 16383) : n * r * recip d / 2 ^ 24 ≤ n := by
  rw [Nat.mul_comm n r]
  exact share_le hr hd

/-- No grant exceeds its request (R41, R42). -/
theorem grantOf_le {budget : Nat} {x : Claim} (hx : x ∈ view) (hd : classDemand view x.cls ≤ 16383) : grantOf view budget x ≤ x.request := by
  by_cases hstandby : x.cls = .standby
  · simp [grantOf_standby hstandby]
  · rw [grantOf_eq hx hstandby]
    (repeat' split)
    · exact Nat.le_refl _
    · exact Nat.zero_le _
    · exact share_le_request (by omega) hd

/-- What the claims of a class get together. -/
def classGrant (view : List Claim) (v : Service) (c : ClaimClass) : Nat :=
  ((view.filter fun x => decide (x.cls = c)).map fun x => grantUnder v x.request).sum

theorem classGrant_nothing (c : ClaimClass) : classGrant view .nothing c = 0 := sum_map_zero _

theorem classGrant_inFull (c : ClaimClass) : classGrant view .inFull c = classDemand view c := by simp [classGrant, classDemand, grantUnder]

/-- Truncated one by one, the shares of a class sum to no more than the remainder (R42). -/
theorem classGrant_part_le (c : ClaimClass) (r : Nat) (hd : classDemand view c ≤ 16383) :
    classGrant view (.part r (recip (classDemand view c))) c ≤ r := by
  have htruncated (l : List Claim) (q : Nat) :
      (l.map fun x => grantUnder (.part r q) x.request).sum ≤ (l.map fun x => x.request).sum * r * q / 2 ^ 24 := by
    induction l with
    | nil => simp
    | cons x l ih =>
      simp only [List.map_cons, List.sum_cons, grantUnder, Nat.add_mul] at *
      exact Nat.le_trans (Nat.add_le_add_left ih _) (Nat.div_add_div_le_add_div ..)
  exact Nat.le_trans (htruncated _ _) (share_le (Nat.le_refl _) hd)

/-- The classes of a fill get no more together than it starts from (R41). -/
theorem sum_classGrant_le (hd : ∀ c, classDemand view c ≤ 16383) {cs : List ClaimClass} (hcs : cs.Nodup) (r : Nat) :
    (cs.map fun c => classGrant view (serviceOf c (fill view cs r)) c).sum ≤ r := by
  induction cs generalizing r with
  | nil => simp
  | cons a cs ih =>
    obtain ⟨ha, hnodup⟩ := List.nodup_cons.mp hcs
    have htail : (cs.map fun c => classGrant view (serviceOf c (fill view (a :: cs) r)) c)
        = cs.map fun c => classGrant view (if classDemand view a ≤ r then serviceOf c (fill view cs (r - classDemand view a)) else .nothing) c := by
      refine List.map_congr_left fun c hc => ?_
      rw [serviceOf_fill_of_ne (ne_of_mem_of_not_mem hc ha)]
    rw [List.map_cons, List.sum_cons, htail, serviceOf_fill_self]
    by_cases hfits : classDemand view a ≤ r
    · have hrest := ih hnodup (r - classDemand view a)
      simp only [hfits, if_true]
      split
      · rw [classGrant_nothing]
        omega
      · rw [classGrant_inFull]
        omega
    · have hpart := classGrant_part_le a r (hd a)
      have hsome : classDemand view a ≠ 0 := by omega
      simp only [hfits, hsome, if_false, classGrant_nothing, sum_map_zero, Nat.add_zero]
      split
      · simp [classGrant_nothing]
      · exact hpart

/-- The grants of a view, class by class. -/
theorem sum_computeGrants (budget : Nat) : (computeGrants view budget).sum
    = (servedClasses.map fun c => classGrant view (serviceOf c (fill view servedClasses budget)) c).sum := by
  have hsplit (l : List Claim) : (l.map (grantOf view budget)).sum
      = (servedClasses.map fun c => classGrant l (serviceOf c (fill view servedClasses budget)) c).sum := by
    induction l with
    | nil => exact (sum_map_zero servedClasses).symm
    | cons x l ih =>
      rw [List.map_cons, List.sum_cons, ih]
      have hstandby := grantOf_standby (view := view) (budget := budget) (x := x)
      cases hx : x.cls <;> simp_all [servedClasses, classGrant, grantOf, List.filter_cons] <;> omega
  exact hsplit view

end

/-- Settles O9: each class gets no more than what is left for it, and a truncated share is no more than the request, since D × RECIP(D) ≤ 2^24. -/
theorem grantsNeverExceedBudget : Obligations.GrantsNeverExceedBudget := by
  intro view budget hd
  refine ⟨fun x hx => grantOf_le hx (hd _), fun x _ => grantOf_standby, ?_⟩
  rw [sum_computeGrants]
  exact sum_classGrant_le hd (by decide) budget

/-- Settles O10: by the service of the claim's class after those above it. -/
theorem fillServesClassesInOrder : Obligations.FillServesClassesInOrder := by
  intro view budget x hx hserved
  dsimp only
  rw [grantOf_eq hx hserved]
  refine ⟨fun hfull => if_pos hfull, fun hnone hpos => ?_, fun hsome hpart => ?_⟩
  · rw [if_neg (by omega), if_pos hnone]
  · rw [if_neg (by omega), if_neg (by omega)]

end Sys2Proof.Machine

end

section
/-! ## Claims and bands -/

namespace Sys2Proof.Machine

/-! ### Claims, requests and the estimate -/

/-- A riser mean reaches 30.00 V where there is a sample and the mean of the window is as great (R56, R112). -/
theorem riserFit_iff (w : List Nat) : riserFit w = true ↔ ¬ (w = [] ∨ w.sum / w.length < 3000) := by
  unfold riserFit windowMean
  cases w <;> simp

theorem State.canDraw_iff (s : State) : s.canDraw = true ↔ ¬ (s.conv.mode = .disabled ∨ s.conv.mode = .riserAbsent ∨ s.demand.window = []
    ∨ s.demand.window.sum / s.demand.window.length < 3000) := by
  simp only [State.canDraw, Bool.and_eq_true, decide_eq_true_eq, riserFit_iff]
  grind

theorem State.profile_lt (s : State) : s.profile < 4 := BitVec.isLt _

/-- The draws of the strapped profile (R59). -/
theorem State.draws_eq (s : State) : (s.bootDraw, s.activeDraw, s.holdDraw)
    = ([(14, 8, 2), (18, 11, 3), (24, 15, 4), (34, 22, 6)][s.profile]?).getD (0, 0, 0) := by
  have hlt := s.profile_lt
  unfold State.bootDraw State.activeDraw State.holdDraw
  generalize s.profile = p at hlt ⊢
  revert p
  decide

theorem State.draws_le (s : State) : s.bootDraw ≤ 34 ∧ s.activeDraw ≤ 34 ∧ s.holdDraw ≤ 34 := by
  have hlt := s.profile_lt
  unfold State.bootDraw State.activeDraw State.holdDraw
  generalize s.profile = p at hlt ⊢
  revert p
  decide

theorem State.ceiling_ge (s : State) : 40 ≤ s.ceiling := by
  unfold State.ceiling strapCeiling
  split <;> omega

/-- The feed claim asks for no more than a draw of the strapped profile (R58, R59). -/
theorem State.feedClaim_le (s : State) : s.feedClaim.2 ≤ 34 := by
  obtain ⟨hboot, hactive, hhold⟩ := s.draws_le
  unfold State.feedClaim
  (repeat' split) <;> dsimp only <;> omega

/-- Settles O28: the model asks for terminal state and demand level in the order of the rows. -/
theorem feedClaimByFirstRow : Obligations.FeedClaimByFirstRow := by
  refine fun s => ⟨?_, s.draws_eq⟩
  unfold State.feedClaim
  by_cases hmains : s.supply.mains = .present
  · simp [hmains]
  · cases hdraw : s.canDraw with
    | false =>
      have hbarred : s.conv.mode = .disabled ∨ s.conv.mode = .riserAbsent ∨ s.demand.window = []
          ∨ s.demand.window.sum / s.demand.window.length < 3000 := by
        refine Classical.byContradiction fun h => ?_
        simp [s.canDraw_iff.mpr h] at hdraw
      rw [if_neg hmains, if_pos (by rfl), if_neg hmains, if_pos hbarred]
    | true =>
      have hfree := s.canDraw_iff.mp hdraw
      rw [if_neg hmains, if_neg (by simp), if_neg hmains, if_neg hfree]
      cases hmode : s.term.mode with
      | off => cases s.term.wakePending <;> simp
      | fault => simp
      | booting => cases s.term.demand <;> simp
      | hold => cases s.term.wakePending <;> cases s.test.carry <;> simp
      | active => cases s.term.demand <;> cases s.test.carry <;> simp

/-- The feed request is below the converter ceiling as it is formed (R63). -/
theorem State.feedRequest_eq (s : State) : s.feedRequest = s.feedClaim.2 :=
  Nat.min_eq_left (Nat.le_trans s.feedClaim_le (Nat.le_trans (by decide) s.ceiling_ge))

theorem State.feedRequest_lt (s : State) : s.feedRequest < s.ceiling := by
  have hclaim := s.feedClaim_le
  have hceiling := s.ceiling_ge
  rw [s.feedRequest_eq]
  omega

/-- The charge claim by outage, band and chemistry (R61 to R63): no request is 0, since the feed request leaves room. -/
theorem State.chargeClaim_eq (s : State) : s.chargeClaim = s.chargeClass.map fun c =>
    (c, min (chargeRequestOf s.chemistry c) (s.ceiling - s.feedRequest)) := by
  have hroom := s.feedRequest_lt
  have hsome {c : ClaimClass} (hc : s.chargeClass = some c) : 0 < chargeRequestOf s.chemistry c := by
    unfold State.chargeClass at hc
    cases s.chemistry <;> (repeat' split at hc) <;> simp_all <;> subst hc <;> decide
  unfold State.chargeClaim
  cases hc : s.chargeClass with
  | none => rfl
  | some c =>
    have hpos := hsome hc
    simp only [Option.map_some]
    rw [if_neg (by omega)]

/-- A charge class is formed in an outage with a fit converter and riser below FULL (R61). -/
theorem State.chargeClass_eq (s : State) : s.chargeClass =
    if s.supply.mains = .absent ∧ s.canDraw = true ∧ (s.batt.band = .good ∨ s.batt.band = .low ∨ s.batt.band = .reserve ∨ s.batt.band = .cutoff)
    then some (if s.batt.band = .good then .topup else .recover) else none := by
  unfold State.chargeClass State.inOutage
  cases s.supply.mains <;> cases s.canDraw <;> cases s.batt.band <;> simp

theorem State.budgetEstimate_eq (s : State) : s.budgetEstimate =
    if s.demand.window = [] ∨ s.demand.window.sum / s.demand.window.length < 3000 then 4095
    else s.rating * estimatePercent (s.demand.window.sum / s.demand.window.length) / 100 := by
  unfold State.budgetEstimate State.riserMean windowMean
  cases s.demand.window <;> simp

/-- Settles O29: a draw is at most 34 feed units and the ceiling 40 at least, so that the feed request stands and a charge request has room. -/
theorem claimsWithinCeiling : Obligations.ClaimsWithinCeiling := by
  intro s
  have hfeed := s.feedRequest_lt
  refine ⟨s.feedRequest_eq, ?_, ?_, ?_, rfl, s.budgetEstimate_eq⟩
  · rw [s.chargeClaim_eq]
    cases s.chargeClass <;> simp <;> omega
  · rw [s.chargeClaim_eq, Option.isSome_map, s.chargeClass_eq]
    split <;> simp_all
  · intro c hc
    rw [s.chargeClaim_eq, s.chargeClass_eq] at hc
    split at hc
    · simp only [Option.map_some, Option.some.injEq] at hc
      subst hc
      refine ⟨rfl, ?_⟩
      cases s.chemistry <;> by_cases hgood : s.batt.band = .good <;> simp [hgood, chargeRequestOf]
    · simp at hc

/-! ### Bands -/

theorem bandRank_targetBand (ch : Chemistry) (v : Nat) {e : Band} (he : e ∈ [Band.full, .good, .low, .reserve]) :
    bandRank e ≤ bandRank (targetBand ch v) ↔ fallingEdge ch e ≤ v := by
  simp only [List.mem_cons, List.not_mem_nil, or_false] at he
  have hrank : bandRank (targetBand ch v) = if fallingEdge ch .full ≤ v then 5 else if fallingEdge ch .good ≤ v then 4
      else if fallingEdge ch .low ≤ v then 3 else if fallingEdge ch .reserve ≤ v then 2 else 1 := by
    unfold targetBand
    (repeat' split) <;> rfl
  generalize bandRank (targetBand ch v) = n at hrank ⊢
  (repeat' split at hrank) <;> cases ch <;> simp only [fallingEdge] at * <;> obtain rfl | rfl | rfl | rfl := he <;>
    simp only [bandRank] <;> omega

theorem bandRank_injective {a b : Band} (h : bandRank a = bandRank b) : a = b := by
  cases a <;> cases b <;> simp_all [bandRank]

/-- Settles O40: a band that is not below the target and not the target itself lies below it. -/
theorem bandFallsFastRisesSlowly : Obligations.BandFallsFastRisesSlowly := by
  refine ⟨⟨by decide, by decide, fun _ _ => rfl⟩, fun ch b v => ⟨fun e he => bandRank_targetBand ch v he, targetBand_ne_unrated ch v, ?_⟩⟩
  unfold newBand risingEdge
  dsimp only
  split
  · rfl
  · split
    · rfl
    next hfalls =>
      by_cases hsame : targetBand ch v = b
      · rw [if_pos hsame, if_neg (by simp [hsame])]
      · have hrises : bandRank b < bandRank (targetBand ch v) := by
          have hne : bandRank b ≠ bandRank (targetBand ch v) := fun h => hsame (bandRank_injective h).symm
          omega
        rw [if_neg hsame]
        simp [hrises]

end Sys2Proof.Machine

end

section
/-! ## The layout of the status frame -/

namespace Sys2Proof.Machine

/-! ### The bytes of a status frame -/

theorem byteOf_toNat {n : Nat} (h : n < 256) : (byteOf n).toNat = n := by simpa [byteOf] using h

/-- The two bytes of a value below 65,536. -/
theorem bytePair_toNat {n : Nat} (h : n < 65536) : (byteOf (n / 256)).toNat * 256 + (byteOf n).toNat = n := by
  simp only [byteOf, BitVec.toNat_ofNat]
  omega

theorem recordBytes_length (r : ResultRecord) : (recordBytes r).length = 4 := rfl

theorem flatMap_recordBytes_length (l : List ResultRecord) : (l.flatMap recordBytes).length = 4 * l.length := by
  induction l with
  | nil => rfl
  | cons r l ih =>
    simp only [List.flatMap_cons, List.length_append, ih, recordBytes_length, List.length_cons]
    omega

/-- The bytes of a list of records, four for each (R168). -/
theorem flatMap_recordBytes_getElem? {l : List ResultRecord} {i : Nat} {r : ResultRecord} (h : l[i]? = some r) {j : Nat} (hj : j < 4) :
    (l.flatMap recordBytes)[4 * i + j]? = (recordBytes r)[j]? := by
  induction l generalizing i with
  | nil => simp at h
  | cons x l ih =>
    rw [List.flatMap_cons]
    cases i with
    | zero =>
      simp only [List.getElem?_cons_zero, Option.some.injEq] at h
      subst h
      rw [List.getElem?_append_left (by rw [recordBytes_length]; omega)]
      simp
    | succ i =>
      rw [List.getElem?_append_right (by rw [recordBytes_length]; omega), recordBytes_length, ← ih (by simpa using h)]
      congr 1
      omega

section
variable (s : State)

theorem fixedBytes_length : (fixedBytes s).length = 20 := rfl

theorem statusBytes_length : (statusBytes s).length = 20 + 4 * s.test.results.length := by
  rw [statusBytes, List.length_append, fixedBytes_length, flatMap_recordBytes_length]

theorem statusBytes_record {i j : Nat} {r : ResultRecord} (h : s.test.results[i]? = some r) (hj : j < 4) :
    (statusBytes s)[20 + j + 4 * i]? = (recordBytes r)[j]? := by
  rw [statusBytes, List.getElem?_append_right (by rw [fixedBytes_length]; omega), fixedBytes_length, ← flatMap_recordBytes_getElem? h hj]
  congr 1
  omega

/-! ### The fields of the coded bytes -/

theorem statusByte2_fields : statusByte2 s < 256 ∧ [Tempo.fast, .slow][statusByte2 s / 128]? = some s.round.tempo
    ∧ [StartCause.cold, .dip][statusByte2 s / 64 % 2]? = some s.supply.cause ∧ statusByte2 s % 64 = s.address.val := by
  unfold statusByte2
  generalize s.address = a
  revert a
  cases s.round.tempo <;> cases s.supply.cause <;> decide

theorem statusByte3_fields : statusByte3 s < 256 ∧ [false, true][statusByte3 s / 128]? = some s.batt.hold
    ∧ [false, true][statusByte3 s / 64 % 2]? = some s.line.stuck ∧ [MainsState.absent, .present][statusByte3 s / 32 % 2]? = some s.supply.mains
    ∧ [Confinement.active, .quiet, .offline][statusByte3 s / 8 % 4]? = some s.line.confinement
    ∧ [false, true][statusByte3 s / 4 % 2]? = some s.round.referenced
    ∧ [Participation.listen, .member, .muted][statusByte3 s % 4]? = some s.round.participation := by
  unfold statusByte3
  cases s.batt.hold <;> cases s.line.stuck <;> cases s.supply.mains <;> cases s.line.confinement <;> cases s.round.referenced <;>
    cases s.round.participation <;> decide

theorem statusByte5_fields : statusByte5 s < 256 ∧ [false, true][statusByte5 s / 128]? = some s.term.wakePending
    ∧ [OffReason.start, .retry, .cutoff, .released][statusByte5 s / 32 % 4]? = some (if s.term.mode = .off then s.term.offReason else .start)
    ∧ [DemandLevel.idle, .wanted, .session, .emergency][statusByte5 s / 8 % 4]? = some s.term.demand
    ∧ [TerminalMode.off, .hold, .booting, .active, .fault][statusByte5 s % 8]? = some s.term.mode := by
  unfold statusByte5
  cases s.term.wakePending <;> cases s.term.offReason <;> cases s.term.demand <;> cases s.term.mode <;> decide

theorem statusByte6_fields : statusByte6 s < 256 ∧ [Switch.opened, .closed][statusByte6 s / 128]? = some s.batt.charge
    ∧ [Switch.opened, .closed][statusByte6 s / 64 % 2]? = some s.batt.discharge
    ∧ [ConverterMode.idle, .run, .held, .disabled, .riserAbsent][statusByte6 s / 8 % 8]? = some s.conv.mode
    ∧ [Band.unrated, .full, .good, .low, .reserve, .cutoff][statusByte6 s % 8]? = some s.batt.band := by
  unfold statusByte6
  cases s.batt.charge <;> cases s.batt.discharge <;> cases s.conv.mode <;> cases s.batt.band <;> decide

end

/-- The first byte of a record: kind, band, verdict (R169). -/
theorem recordByte_fields (k : ResultKind) (b : Band) (v : Verdict) :
    let n := (if k = .wake then 128 else 0) + 16 * bandCode b + verdictCode v
    n < 256 ∧ [ResultKind.pulse, .wake][n / 128]? = some k ∧ [Band.unrated, .full, .good, .low, .reserve, .cutoff][n / 16 % 8]? = some b
      ∧ [Verdict.pass, .weak, .fail, .aborted, .notCarried, .badLoad, .deferred, .ok, .timeout][n % 16]? = some v := by
  cases k <;> cases b <;> cases v <;> decide

/-! ### The serial line -/

/-- The byte and the bit of it that a time since the frame began lies in. -/
theorem bit_of_cycles {c i n : Nat} (hn : n < 10) (hlo : 1000 * (10 * i + n) ≤ 3 * c) (hhi : 3 * c < 1000 * (10 * i + n + 1)) :
    3 * c / 1000 / 10 = i ∧ 3 * c / 1000 % 10 = n := by
  have hbit : 3 * c / 1000 = 10 * i + n := by omega
  omega

/-- The level of a bit of a byte in progress (R166). -/
theorem statusLevel_eq {s : State} {f : StatusFrame} {i n : Nat} (hf : s.status.frame = some f) (hn : n < 10)
    (hlo : 1000 * (10 * i + n) ≤ 3 * (s.clock - f.began)) (hhi : 3 * (s.clock - f.began) < 1000 * (10 * i + n + 1)) :
    s.statusLevel = (match f.bytes[i]? with
      | none => true
      | some b => if n = 0 then false else if n = 9 then true else decide (b.toNat / 2 ^ (n - 1) % 2 = 1)) := by
  obtain ⟨hbyte, hbit⟩ := bit_of_cycles hn hlo hhi
  unfold State.statusLevel
  simp only [hf, hbyte, hbit]
  cases f.bytes[i]? with
  | none => rfl
  | some b => simp only [BitVec.getLsbD, Nat.testBit_eq_decide_div_mod_eq]

/-- Settles O51: each byte stands at its place, and a code is found again by its field's bits. -/
theorem statusFrameLayout : Obligations.StatusFrameLayout := by
  refine ⟨fun s f i n hf hn hlo hhi => statusLevel_eq hf hn hlo hhi, fun s hnone => by simp [State.statusLevel, hnone], fun s _ => ?_⟩
  obtain ⟨h2, hfields2⟩ := statusByte2_fields s
  obtain ⟨h3, hfields3⟩ := statusByte3_fields s
  obtain ⟨h5, hfields5⟩ := statusByte5_fields s
  obtain ⟨h6, hfields6⟩ := statusByte6_fields s
  refine ⟨statusBytes_length s, rfl, rfl, ⟨_, rfl, ?_⟩, ⟨_, rfl, ?_⟩, rfl, ⟨_, rfl, ?_⟩, ⟨_, rfl, ?_⟩, fun hb => ⟨_, _, rfl, rfl, bytePair_toNat hb⟩,
    rfl, rfl, rfl, rfl, rfl, rfl, rfl, rfl, rfl, rfl, rfl, fun i r hr =>
    ⟨⟨byteOf ((if r.kind = .wake then 128 else 0) + 16 * bandCode r.band + verdictCode r.verdict), ?_, ?_⟩,
      fun hv => ⟨byteOf (r.value.getD 65535 / 256), byteOf (r.value.getD 65535), ?_, ?_, bytePair_toNat hv⟩, ?_⟩⟩
  · rw [byteOf_toNat h2]
    exact hfields2
  · rw [byteOf_toNat h3]
    exact hfields3
  · rw [byteOf_toNat h5]
    exact hfields5
  · rw [byteOf_toNat h6]
    exact hfields6
  · exact statusBytes_record s hr (j := 0) (by decide)
  · obtain ⟨hlt, hfields⟩ := recordByte_fields r.kind r.band r.verdict
    rw [byteOf_toNat hlt]
    exact hfields
  · exact statusBytes_record s hr (j := 1) (by decide)
  · exact statusBytes_record s hr (j := 2) (by decide)
  · exact statusBytes_record s hr (j := 3) (by decide)

end Sys2Proof.Machine

end

section
/-! ## The band and the repeat timer -/

namespace Sys2Proof.Machine

/-! ### What leaves the band -/

section
variable (s : State)

@[simp] theorem State.endTest_band : s.endTest.batt.band = s.batt.band := (State.endTest_batt s).2.1

@[simp] theorem State.abortTest_batt_band (v : Verdict) : (s.abortTest v).batt.band = s.batt.band := s.abortTest_band v

@[simp] theorem State.leaveRun_band (m : ConverterMode) : (s.leaveRun m).batt.band = s.batt.band := by simp [State.leaveRun]

@[simp] theorem State.enterRun_band : s.enterRun.batt.band = s.batt.band := by
  unfold State.enterRun
  dsimp only
  split <;> simp

@[simp] theorem State.intervalBoundary_band : s.intervalBoundary.batt.band = s.batt.band := by
  rw [State.intervalBoundary_eq]
  (repeat' split) <;> simp

@[simp] theorem State.startTest_band : s.startTest.batt.band = s.batt.band := by
  unfold State.startTest
  split <;> simp

@[simp] theorem State.applyLowering_band : s.applyLowering.batt.band = s.batt.band := by
  unfold State.applyLowering
  dsimp only
  (repeat' split) <;> simp

@[simp] theorem State.applyRaising_band : s.applyRaising.batt.band = s.batt.band := by simp [State.applyRaising]

@[simp] theorem State.runPoints_band : s.runPoints.batt.band = s.batt.band := by
  rw [State.runPoints_eq]
  unfold State.lowered
  (repeat' split) <;> simp

@[simp] theorem State.computationCompletes_band : s.computationCompletes.batt.band = s.batt.band := by
  rw [State.computationCompletes_eq]
  unfold State.owedApplied
  split <;> simp

@[simp] theorem State.clearStanding_band : s.clearStanding.batt.band = s.batt.band := by simp [State.clearStanding]

@[simp] theorem State.readConfinement_band : s.readConfinement.batt.band = s.batt.band := by
  unfold State.readConfinement State.enterOffline
  split
  · rfl
  · split <;> simp

@[simp] theorem State.completeFrame_band : s.completeFrame.batt.band = s.batt.band := by simp [State.completeFrame, State.countValid]

@[simp] theorem State.takeError_band (k : ErrorKind) : (s.takeError k).batt.band = s.batt.band := by simp [State.takeError, State.countError]

@[simp] theorem State.testSample_band (v : Nat) (c : Int) : (s.testSample v c).batt.band = s.batt.band := by
  unfold State.testSample State.collapse
  (repeat' split) <;> simp

@[simp] theorem State.converterSample_band (v c : Nat) : (s.converterSample v c).batt.band = s.batt.band := by
  rw [State.converterSample_eq]
  unfold State.modeSampled
  dsimp only
  (repeat' split) <;> simp [State.riserSampled, State.ramp]

@[simp] theorem State.measured_band (tb : TimeBase) (m : Samples) : (s.measured tb m).batt.band = s.batt.band := by
  rw [State.measured_eq]
  simp [State.offered, State.batterySample, State.nextMeasurement]

@[simp] theorem State.resultOf_band (c : TestContext) : (s.resultOf c).batt.band = s.batt.band := by
  unfold State.resultOf
  split <;> rfl

@[simp] theorem State.settlePrevious_band : s.settlePrevious.batt.band = s.batt.band := by
  rw [State.settlePrevious_eq]
  unfold State.closedIfPending
  dsimp only
  (repeat' split) <;> simp

@[simp] theorem State.takeReference_band (o : Opening) : (s.takeReference o).batt.band = s.batt.band := by
  rw [State.takeReference_eq]
  unfold State.pointsPending State.snapshotIfMember
  split <;> simp [State.referenceTaken, State.referenceAdopted]

end

/-! ### The repeat timer -/

theorem State.repeatRuns_iff (s : State) : s.repeatRuns = true ↔ s.supply.asleep = false ∧ s.batt.band ≠ .unrated
    ∧ (s.round.participation = .listen ∨ s.round.referenced = false) := by
  simp [State.repeatRuns, State.acting, and_assoc]

theorem State.repeatRuns_congr {s t : State} (hasleep : t.supply.asleep = s.supply.asleep) (hband : t.batt.band = s.batt.band)
    (hpart : t.round.participation = s.round.participation) (href : t.round.referenced = s.round.referenced) : t.repeatRuns = s.repeatRuns := by
  simp [State.repeatRuns, State.acting, hasleep, hband, hpart, href]

/-- Sleep is for a referenced MEMBER (R164). -/
theorem State.member_of_sleepAllowed {s : State} (h : s.sleepAllowed = true) : s.round.participation = .member ∧ s.round.referenced = true := by
  simp only [State.sleepAllowed, Bool.and_eq_true, decide_eq_true_eq] at h
  obtain ⟨⟨⟨⟨⟨⟨⟨-, hmember⟩, href⟩, -⟩, -⟩, -⟩, -⟩, -⟩ := h
  exact ⟨hmember, href⟩

/-- From one state to another the repeat timer starts where its conditions come to hold, stops where they cease, and else stays (R167). -/
structure RepeatFollows (s t : State) : Prop where
  clock : t.clock = s.clock
  stands : t.status.repeatTimer.isSome = t.repeatRuns
  starts : s.repeatRuns = false → t.repeatRuns = true → t.status.repeatTimer = some (s.clock + ms 1000)
  stays : s.repeatRuns = true → t.repeatRuns = true → t.status.repeatTimer = s.status.repeatTimer

section
variable {s : State}

/-- What leaves the timer and its conditions. -/
theorem RepeatFollows.same {t u : State} (h : RepeatFollows s t) (hclock : u.clock = t.clock) (htimer : u.status.repeatTimer = t.status.repeatTimer)
    (hruns : u.repeatRuns = t.repeatRuns) : RepeatFollows s u := by
  obtain ⟨htclock, hstands, hstarts, hstays⟩ := h
  exact ⟨hclock.trans htclock, by rw [htimer, hruns, hstands], by rw [hruns, htimer]; exact hstarts, by rw [hruns, htimer]; exact hstays⟩

/-- The state that it starts from enters by its clock, its timer and its conditions alone. -/
theorem RepeatFollows.from {r t : State} (h : RepeatFollows r t) (hclock : r.clock = s.clock) (htimer : r.status.repeatTimer = s.status.repeatTimer)
    (hruns : r.repeatRuns = s.repeatRuns) : RepeatFollows s t := by
  obtain ⟨htclock, hstands, hstarts, hstays⟩ := h
  exact ⟨htclock.trans hclock, hstands, by rw [← hruns, ← hclock]; exact hstarts, by rw [← hruns, ← htimer]; exact hstays⟩

variable (hs : s.status.repeatTimer.isSome = s.repeatRuns)
include hs

theorem RepeatFollows.refl : RepeatFollows s s :=
  ⟨rfl, hs, fun hf ht => by simp [hf] at ht, fun _ _ => rfl⟩

/-- Where a command settles the timer, its conditions may have changed before. -/
theorem RepeatFollows.settled {u : State} (hclock : u.clock = s.clock) (htimer : u.status.repeatTimer = s.status.repeatTimer) :
    RepeatFollows s u.settleRepeat := by
  have hruns : u.settleRepeat.repeatRuns = u.repeatRuns := State.repeatRuns_congr (by simp) (by simp) (by simp) (by simp)
  refine ⟨by simp [hclock], by rw [State.settleRepeat_runs, hruns], fun hno hyes => ?_, fun hyes hyes' => ?_⟩
  · rw [hruns] at hyes
    have hnone : u.status.repeatTimer.isSome = false := by rw [htimer, hs, hno]
    simp [State.settleRepeat, hyes, hnone, hclock]
  · rw [hruns] at hyes'
    have hsome : u.status.repeatTimer.isSome = true := by rw [htimer, hs, hyes]
    rw [State.settleRepeat_of_running hyes' hsome, htimer]

theorem RepeatFollows.wakeUp : RepeatFollows s s.wakeUp := by
  unfold State.wakeUp
  split
  · exact .settled hs (by simp) (by simp)
  · exact .refl hs

end

section
variable {s t : State} (h : RepeatFollows s t)
include h

theorem RepeatFollows.askSleep : RepeatFollows s t.askSleep :=
  h.same (by simp) (by simp) (State.repeatRuns_congr (by rw [State.askSleep_supply]) (by simp) (by simp) (by simp))

theorem RepeatFollows.raiseCarry : RepeatFollows s t.raiseCarry :=
  h.same (by simp) (by simp) (State.repeatRuns_congr (by simp) (by simp) (by simp) (by simp))

theorem RepeatFollows.requestStatus : RepeatFollows s t.requestStatus :=
  h.same (by simp) (by simp) (State.repeatRuns_congr (by simp) (by simp) (by simp) (by simp))

end

section
variable {s : State} (hs : s.status.repeatTimer.isSome = s.repeatRuns)
include hs

theorem RepeatFollows.clash {u : State} (hclock : u.clock = s.clock) (htimer : u.status.repeatTimer = s.status.repeatTimer) :
    RepeatFollows s u.clash := by
  rw [State.clash_eq]
  unfold State.mutedByClash
  split
  · exact .settled hs (by simp [hclock]) (by simp [htimer])
  · exact .settled hs (by simp [hclock]) (by simp [htimer])

theorem RepeatFollows.openingCompletes (o : Opening) : RepeatFollows s (s.openingCompletes o) := by
  unfold State.openingCompletes
  dsimp only
  (repeat' split)
  · exact .clash hs (by simp) (by simp)
  · exact (RepeatFollows.refl hs).same (by simp) (by simp) (State.repeatRuns_congr (by simp) (by simp) (by simp) (by simp))
  · exact .settled hs (by simp) (by simp)
  · exact .settled hs (by simp) (by simp)

theorem RepeatFollows.noticeCompletes (n : Notice) : RepeatFollows s (s.noticeCompletes n) := by
  unfold State.noticeCompletes
  dsimp only
  split
  · exact .clash hs (by simp) (by simp)
  · exact (RepeatFollows.refl hs).same (by simp) (by simp) (State.repeatRuns_congr (by simp) (by simp) (by simp) (by simp))

theorem RepeatFollows.losesReference : RepeatFollows s s.losesReference :=
  (RepeatFollows.settled hs (by simp) (by simp)).requestStatus

theorem RepeatFollows.setBand (b : Band) (hb : b ≠ .unrated) : RepeatFollows s (s.setBand b) := by
  rw [State.setBand_eq]
  split
  · exact (RepeatFollows.settled hs (by simp [State.banded]) (by simp [State.banded])).requestStatus
  next hold =>
    refine (RepeatFollows.refl hs).same (by simp [State.banded]) (by simp [State.banded]) ?_
    simp [State.repeatRuns, State.acting, State.testBandChange_band, State.banded, hb, hold]

theorem RepeatFollows.evaluated : RepeatFollows s s.evaluated := by
  have hcounted {t : State} (ht : t = { s with batt := { s.batt with evalCount := 0 } }) : RepeatFollows s t := by
    subst ht
    exact (RepeatFollows.refl hs).same rfl rfl (State.repeatRuns_congr rfl rfl rfl rfl)
  unfold State.evaluated
  dsimp only
  (repeat' split)
  · exact hcounted rfl
  · exact hcounted rfl
  · exact hcounted rfl
  next v _ _ =>
    have hset : RepeatFollows { s with batt := { s.batt with evalCount := 0 } }
        (State.setBand { s with batt := { s.batt with evalCount := 0 } } (newBand s.chemistry s.batt.band v)) :=
      RepeatFollows.setBand (s := { s with batt := { s.batt with evalCount := 0 } }) hs _ (newBand_ne_unrated _ _ _)
    exact (hset.from (s := s) rfl rfl rfl).raiseCarry

theorem RepeatFollows.demandTaken : RepeatFollows s s.demandTaken := by
  have hband (u : State) : u.testAtDemand.batt.band = u.batt.band := by
    unfold State.testAtDemand
    split <;> simp
  unfold State.demandTaken
  split
  · exact (RepeatFollows.wakeUp hs).same (by simp) (by simp) (State.repeatRuns_congr (by simp) (by simp [hband]) (by simp) (by simp))
  · exact (RepeatFollows.refl hs).same rfl rfl (State.repeatRuns_congr rfl rfl rfl rfl)

theorem RepeatFollows.mainsFails : RepeatFollows s s.mainsFails :=
  (RepeatFollows.wakeUp hs).same (by simp [State.mainsFails]) (by simp [State.mainsFails])
    (State.repeatRuns_congr (by simp [State.mainsFails]) (by simp [State.mainsFails]) (by simp) (by simp))

theorem RepeatFollows.mainsReturns : RepeatFollows s s.mainsReturns := by
  have hband (u : State) : u.testMainsReturn.converterMainsReturn.batt.band = u.batt.band := by
    unfold State.converterMainsReturn
    split <;> simp [State.enterIdle, State.testMainsReturn, State.abortTestDue_band]
  exact (RepeatFollows.wakeUp hs).same (by simp [State.mainsReturns]) (by simp [State.mainsReturns])
    (State.repeatRuns_congr (by simp [State.mainsReturns]) (by simp [State.mainsReturns, hband]) (by simp [State.mainsReturns]) (by simp [State.mainsReturns]))

/-- A command that does not touch the timer and leaves its conditions. -/
theorem RepeatFollows.of_conditions {c : Instr} (htimer : .status ∉ touched c) (hruns : (effect c s).repeatRuns = s.repeatRuns) :
    RepeatFollows s (effect c s) :=
  (RepeatFollows.refl hs).same (effect_sameBut c s).clock ((effect_sameBut c s).status htimer) hruns

/-- A command settles the timer by its conditions, its own expiry apart (R167). -/
theorem RepeatFollows.effect (hlisten : s.round.participation = .listen → s.round.referenced = false) (c : Instr) (hc : c ≠ .repeatTimerExpiry) :
    RepeatFollows s (effect c s) := by
  have hrefl := RepeatFollows.refl hs
  have hkeeps {c : Instr} {f : State → State} (he : exec c s = .next (whenRunning f s)) (hf : RepeatFollows s (f s)) :
      RepeatFollows s (Machine.effect c s) :=
    effect_keeps (P := RepeatFollows s) (fun t ht => ht.askSleep) he hrefl hf
  have hruns {c : Instr} {f : State → State} (he : exec c s = .next (whenRunning f s)) (hf : (f s).repeatRuns = s.repeatRuns) :
      (Machine.effect c s).repeatRuns = s.repeatRuns :=
    effect_proj State.repeatRuns (fun t => State.repeatRuns_congr (by rw [State.askSleep_supply]) (by simp) (by simp) (by simp)) he hf
  have hfresh (t : State) (hclock : t.clock = s.clock) (htimer : t.status.repeatTimer = none) (hband : t.batt.band = .unrated) :
      RepeatFollows s t := by
    have hno : t.repeatRuns = false := by simp [State.repeatRuns, State.acting, hband]
    exact ⟨hclock, by simp [htimer, hno], by simp [hno], by simp [hno]⟩
  cases c with
  | repeatTimerExpiry => exact absurd rfl hc
  | supplyDipReset => exact hkeeps rfl (hfresh _ rfl rfl rfl)
  | start p =>
    simp only [Machine.effect, exec, execStart]
    split
    · exact hfresh _ rfl rfl rfl
    · exact hrefl
  | retainedStoreLoss =>
    simp only [Machine.effect, exec, execRetainedStoreLoss]
    split
    · exact hrefl.same rfl rfl rfl
    · exact hrefl
  | mainsFail => exact hkeeps rfl (by split; { exact .mainsFails hs }; { exact hrefl })
  | mainsReturn => exact hkeeps rfl (by split; { exact .mainsReturns hs }; { exact hrefl })
  | openingFrame o => exact hkeeps rfl (by split; { exact .openingCompletes hs o }; { exact hrefl })
  | notice n => exact hkeeps rfl (by split; { exact .noticeCompletes hs n }; { exact hrefl })
  | roundTimerLead =>
    refine hkeeps rfl ?_
    split
    · exact (RepeatFollows.wakeUp hs).same (by simp) (by simp) (State.repeatRuns_congr (by simp) (by simp) (by simp) (by simp))
    · exact hrefl
  | lineEdgeWake =>
    refine hkeeps rfl ?_
    (repeat' split)
    · exact (RepeatFollows.wakeUp hs).same rfl rfl (State.repeatRuns_congr rfl rfl rfl rfl)
    · exact hrefl.same rfl rfl (State.repeatRuns_congr rfl rfl rfl rfl)
    · exact hrefl
  | roundAgeLimit => exact hkeeps rfl (by split; { exact .losesReference hs }; { exact hrefl })
  | bandEvaluation => exact hkeeps rfl (by split; { exact .evaluated hs }; { exact hrefl })
  | demandLevelTaken => exact hkeeps rfl (by split; { exact .demandTaken hs }; { exact hrefl })
  | readySeen =>
    refine hkeeps rfl ?_
    have hwoken : RepeatFollows s (if s.pins.ready then s else s.wakeUp) := by split; { exact hrefl }; { exact .wakeUp hs }
    generalize (if s.pins.ready then s else s.wakeUp) = w at hwoken
    exact hwoken.same (by simp) (by simp) (State.repeatRuns_congr (by simp) (by simp) (by simp) (by simp))
  | readyLost =>
    refine hkeeps rfl ?_
    have hwoken : RepeatFollows s (if s.pins.ready then s.wakeUp else s) := by split; { exact .wakeUp hs }; { exact hrefl }
    generalize (if s.pins.ready then s.wakeUp else s) = w at hwoken
    dsimp only
    split
    · exact hwoken.same (by simp) (by simp) (State.repeatRuns_congr (by simp) (by simp [State.linkLost]) (by simp) (by simp))
    · exact hwoken.same rfl rfl (State.repeatRuns_congr rfl rfl rfl rfl)
  | joinTimerExpiry =>
    refine .of_conditions hs (by simp [touched]) (hruns rfl ?_)
    split
    · rfl
    · split
      next hjoin =>
        have href := hlisten hjoin.1
        simp [State.repeatRuns, State.acting, State.joinExpires, href]
      next => rfl
  | enterSleep =>
    refine .of_conditions hs (by simp [touched]) (hruns rfl ?_)
    split
    next hsleep =>
      simp only [Bool.and_eq_true] at hsleep
      obtain ⟨hmember, href⟩ := State.member_of_sleepAllowed hsleep.2
      simp [State.repeatRuns, hmember, href]
    next => rfl
  | fastOscillatorStable | mainsSenseChange =>
    refine .of_conditions hs (by simp [touched]) (hruns rfl ?_)
    (repeat' split) <;> exact State.repeatRuns_congr (by simp) (by simp) (by simp) (by simp)
  | closeEvent | errorDelimiterEnd | lineStuck | startBitEdge | shareComputationComplete | loweringPoint | raisingPoint | frameError
  | dominantTimeout | measurementEvent | settleEnd | testDone | persistLatch | intervalTimerExpiry | riserHighLatch | roundTimerExpiry
  | mutedReportPoint =>
    refine .of_conditions hs (by simp [touched]) (State.repeatRuns_congr ((effect_sameBut _ s).supply_fields (by simp [touched])).2.2.2.2 ?_ ?_ ?_)
    · exact effect_proj (·.batt.band) (by simp) rfl (by (repeat' split) <;> simp [State.delimiterEnds_eq, State.testDone, State.latches, State.settleEnds])
    · exact effect_proj (·.round.participation) (by simp) rfl (by
        (repeat' split) <;> simp [State.computationCompletes_eq, State.delimiterEnds_eq, State.getsStuck_eq, State.settleEnds])
    · exact effect_proj (·.round.referenced) (by simp) rfl (by
        (repeat' split) <;> simp [State.computationCompletes_eq, State.delimiterEnds_eq, State.getsStuck_eq, State.settleEnds])
  | _ =>
    refine .of_conditions hs (by simp [touched]) (State.repeatRuns_congr ?_ ?_ ?_ ?_)
    · exact ((effect_sameBut _ s).supply_fields (by simp [touched])).2.2.2.2
    · rw [(effect_sameBut _ s).batt (by simp [touched])]
    · rw [(effect_sameBut _ s).round (by simp [touched])]
    · rw [(effect_sameBut _ s).round (by simp [touched])]

end

/-- The timer's own expiry restarts it, under conditions that stand (R167). -/
theorem effect_repeatTimerExpiry (s : State) :
    (effect .repeatTimerExpiry s).status.repeatTimer.isSome = s.status.repeatTimer.isSome
      ∧ (effect .repeatTimerExpiry s).repeatRuns = s.repeatRuns := by
  refine ⟨effect_proj (·.status.repeatTimer.isSome) (by simp) rfl ?_, State.repeatRuns_congr ?_ ?_ ?_ ?_⟩
  · split
    next hnone => simp [hnone]
    next hsome => split <;> simp [hsome]
  · exact ((effect_sameBut _ s).supply_fields (by simp [touched])).2.2.2.2
  · rw [(effect_sameBut _ s).batt (by simp [touched])]
  · rw [(effect_sameBut _ s).round (by simp [touched])]
  · rw [(effect_sameBut _ s).round (by simp [touched])]

/-! ### When a frame is sent -/

theorem State.requestStatus_of_free {s : State} (hosc : s.supply.oscillator = .stable) (hfree : s.status.frame = none) :
    s.requestStatus = s.startStatus := by
  simp [State.requestStatus, State.oscStable, hosc, hfree]

/-- The reporter after the last byte of a frame, before a pending request. -/
def State.statusEnded (s : State) : State :=
  { s with
    status := { s.status with frame := none }
    supply := { s.supply with sleepFrame := if s.supply.sleepFrame = .sending then .sent else s.supply.sleepFrame } }

theorem State.statusEnds_eq {s : State} (hosc : s.supply.oscillator = .stable) :
    s.statusEnds = if s.status.pending then s.statusEnded.startStatus else s.statusEnded := by
  have heq : s.statusEnds = if s.status.pending && s.statusEnded.oscStable then s.statusEnded.startStatus else s.statusEnded := rfl
  rw [heq]
  simp [State.oscStable, State.statusEnded, hosc]

/-- Settles O50: a request on a free reporter starts a frame, and a command that changes what the repeat timer depends on settles it last. -/
theorem statusFramesAreSent : Obligations.StatusFramesAreSent := by
  refine ⟨fun s hrun hosc hfree hmuted hpend hdue => ?_, fun s f hrun hosc hf hsent => ?_, fun s e hrun hosc hfree htimer hdue hawake hband hpart => ?_,
    fun c s t hexec hlisten => ?_⟩
  · refine ⟨State.startStatus { s with round := { s.round with reportPending := false } }, ?_, rfl, rfl, rfl, rfl⟩
    have hmoment : s.roundMoment 700 ≤ s.clock := hdue
    rw [exec, execMutedReportPoint, whenRunning_of_running _ hrun, if_pos (by simp [hmuted, hpend, hmoment]), State.requestStatus_of_free]
    · exact hosc
    · exact hfree
  · have hend : f.sent s.clock = true := decide_eq_true hsent
    refine ⟨s.statusEnds, ?_, ?_⟩
    · rw [exec, execStatusFrameEnd, whenRunning_of_running _ hrun]
      simp only [hf, hend, if_true]
    · rw [State.statusEnds_eq hosc]
      cases hpend : s.status.pending
      · exact ⟨hpend, rfl, rfl⟩
      · exact ⟨rfl, rfl, rfl⟩
  · have hruns : s.repeatRuns = true := (State.repeatRuns_iff s).mpr ⟨hawake, hband, hpart⟩
    refine ⟨State.startStatus { s with status := { s.status with repeatTimer := some (s.clock + ms 1000) } }, ?_, rfl, rfl, rfl⟩
    rw [exec, execRepeatTimerExpiry, whenRunning_of_running _ hrun]
    simp only [htimer, hdue, hruns, decide_true, Bool.and_self, if_true]
    rw [State.requestStatus_of_free]
    · exact hosc
    · exact hfree
  · intro runs hstands
    have hruns (u : State) : runs u ↔ u.repeatRuns = true := (State.repeatRuns_iff u).symm
    have hs : s.status.repeatTimer.isSome = s.repeatRuns := by rw [Bool.eq_iff_iff, hstands, hruns]
    obtain rfl := effect_of_exec hexec
    simp only [hruns, Bool.not_eq_true]
    by_cases hc : c = .repeatTimerExpiry
    · subst hc
      obtain ⟨hstill, hconditions⟩ := effect_repeatTimerExpiry s
      refine ⟨by rw [hstill, hconditions, hs], fun hno hyes => ?_, fun _ _ hne => absurd rfl hne⟩
      rw [hconditions, hno] at hyes
      exact absurd hyes (by simp)
    · obtain ⟨-, hfits, hstarts, hstays⟩ := RepeatFollows.effect hs hlisten c hc
      exact ⟨by rw [hfits], hstarts, fun hyes hyes' _ => hstays hyes hyes'⟩

end Sys2Proof.Machine

end

section
/-! ## The end of the error delimiter -/

namespace Sys2Proof.Machine

/-! ### The queue and its notices -/

theorem noticeCount_eq (q : List Frame) : noticeCount q = (q.filter Frame.isNotice).length := List.countP_eq_length_filter

theorem noticeCount_openings (q : List Frame) : noticeCount (q.filter fun f => !Frame.isNotice f) = 0 := by
  simp [noticeCount, List.countP_filter]

/-- What taking the head off a queue counts (R90). -/
theorem noticeCount_sub_tail (q : List Frame) : noticeCount q - noticeCount q.tail = ((q.take 1).filter Frame.isNotice).length := by
  cases q with
  | nil => rfl
  | cons f q => cases hf : Frame.isNotice f <;> simp [noticeCount, hf]

/-- The line controller after a close event: the notices are removed and counted unsent (R12, R90). -/
theorem LineState.dropNotices_eq (l : LineState) : l.dropNotices = { l with
    queue := l.queue.filter fun f => !Frame.isNotice f
    failed := if (l.queue.filter fun f => !Frame.isNotice f).head? = l.queue.head? then l.failed else 0
    unsent := min 255 (l.unsent + (l.queue.filter Frame.isNotice).length) } := by
  simp [LineState.dropNotices, LineState.dropTo, LineState.withQueue, sat255, noticeCount_openings, ← noticeCount_eq, Nat.min_comm]

/-- The line controller at the end of an error delimiter, field by field (R99, R102). -/
theorem LineState.afterDelimiter_eq (l : LineState) : l.afterDelimiter = { l with
    phase := .gap, role := .none, driver := .recessive, error := none, gapBits := 0, rxBits := []
    queue := if 2 ≤ l.failed then l.queue.tail else l.queue
    failed := if 2 ≤ l.failed then 0 else l.failed
    unsent := if 2 ≤ l.failed then min 255 (l.unsent + ((l.queue.take 1).filter Frame.isNotice).length) else l.unsent } := by
  unfold LineState.afterDelimiter
  dsimp only
  split
  · simp [LineState.dropTo, LineState.withQueue, sat255, noticeCount_sub_tail, Nat.min_comm]
  · rfl

/-- An opening frame placed before notices alone (R6, R88). -/
theorem LineState.placeOpening_of_notices (l : LineState) (o : Opening) (h : l.queue.all Frame.isNotice = true) :
    l.placeOpening o = { l with queue := .opening o :: l.queue, failed := 0 } := by
  have hnone : (l.queue.any fun f => !Frame.isNotice f) = false := by simpa using h
  have hhead : some (Frame.opening o) ≠ l.queue.head? := by
    cases hq : l.queue with
    | nil => simp
    | cons f q =>
      simp only [List.head?_cons, ne_eq, Option.some.injEq]
      rintro rfl
      simp [hq, Frame.isNotice] at h
  simp [LineState.placeOpening, hnone, LineState.withQueue, hhead]

theorem LineState.placeOpening_of_queued (l : LineState) (o : Opening) (h : l.queue.all Frame.isNotice = false) : l.placeOpening o = l := by
  have hsome : (l.queue.any fun f => !Frame.isNotice f) = true := by simpa using h
  simp [LineState.placeOpening, hsome]

/-! ### The round's moments and its opening frame -/

theorem State.closeDue_iff (s : State) : s.closeDue = true ↔ s.round.closePending = true ∧ s.round.missed = false
    ∧ s.round.participation ≠ .listen ∧ s.round.t0 + 600 * 3200 ≤ s.clock := by
  simp only [State.closeDue, Bool.and_eq_true, decide_eq_true_eq, Bool.not_eq_true', and_assoc]
  rfl

theorem State.timerExpired_iff (s : State) : s.timerExpired = true ↔ s.round.participation = .member ∧ ∃ e, s.round.timer = some e ∧ e ≤ s.clock := by
  unfold State.timerExpired
  cases s.round.timer <;> simp

theorem State.suppressed_eq (s : State) : s.suppressed = s.round.lastValid.any fun v => decide (s.clock ≤ v + 200 * 3200) := by
  unfold State.suppressed
  cases s.round.lastValid <;> rfl

theorem State.skew_eq (s : State) : s.skew = 2 * (s.address.val + 1) * 3200 := by
  simp only [State.skew, ms]
  exact Nat.mul_comm _ _

theorem State.openingContents_eq (s : State) : s.openingContents =
    { addr := s.address
      tempo := if s.supply.mains = .absent ∨ s.round.viewOutage = true then .fast else .slow
      round := if s.round.adopted then BitVec.ofNat 8 ((s.round.number.toNat + 1) % 256) else 0 } := by
  have hnumber : s.round.number + 1 = BitVec.ofNat 8 ((s.round.number.toNat + 1) % 256) := by
    apply BitVec.eq_of_toNat_eq
    simp
  unfold State.openingContents
  rw [hnumber]
  simp [State.inOutage]

/-- A round timer expiry on a line that is not IDLE (R6). -/
theorem State.handleExpiry_line_of_busy {s : State} (hbusy : s.line.phase ≠ .idle) : s.handleExpiry.line =
    if s.suppressed = false ∧ s.line.confinement ≠ .offline ∧ s.line.stuck = false then s.line.placeOpening s.openingContents else s.line := by
  have hphase (o : Opening) : (s.line.placeOpening o).phase = s.line.phase := by
    unfold LineState.placeOpening
    split <;> rfl
  rw [State.handleExpiry_line]
  split
  · rw [State.offer_line, if_neg]
    · rfl
    · simp [State.rearm, hphase, hbusy]
  · rfl

/-! ### The end of a frame that is not taken -/

section
variable (s : State)

/-- An opening frame is placed at the end of a frame (R6). -/
def State.placesAtEnd (left : List Frame) : Bool :=
  s.timerExpired && !s.suppressed && decide (s.line.confinement ≠ .offline) && !s.line.stuck && left.all Frame.isNotice

/-- What is left in the queue at the end of a frame (R12). -/
def State.leftAtEnd : List Frame := if s.closeDue then s.line.queue.filter (fun f => !Frame.isNotice f) else s.line.queue

theorem State.frameEnded_line_eq (hbusy : s.line.phase ≠ .idle) : s.frameEnded.line = { s.line with
    queue := if s.placesAtEnd s.leftAtEnd then .opening s.closedIfDue.openingContents :: s.leftAtEnd else s.leftAtEnd
    failed := if s.placesAtEnd s.leftAtEnd = false ∧ s.leftAtEnd.head? = s.line.queue.head? then s.line.failed else 0
    unsent := if s.closeDue then min 255 (s.line.unsent + (s.line.queue.filter Frame.isNotice).length) else s.line.unsent } := by
  have hclosed : s.closedIfDue.line = { s.line with
      queue := s.leftAtEnd
      failed := if s.leftAtEnd.head? = s.line.queue.head? then s.line.failed else 0
      unsent := if s.closeDue then min 255 (s.line.unsent + (s.line.queue.filter Frame.isNotice).length) else s.line.unsent } := by
    rw [State.closedIfDue_line]
    unfold State.leftAtEnd
    cases s.closeDue with
    | false => simp
    | true => simp only [if_true, LineState.dropNotices_eq]
  have hsuppressed : s.closedIfDue.suppressed = s.suppressed := by simp [State.suppressed]
  have hphase : s.closedIfDue.line.phase ≠ .idle := by rw [hclosed]; exact hbusy
  rw [State.frameEnded_line]
  cases hexp : s.timerExpired with
  | false =>
    rw [if_neg Bool.false_ne_true, hclosed]
    simp [State.placesAtEnd, hexp]
  | true =>
    rw [if_pos rfl, State.handleExpiry_line_of_busy hphase, hsuppressed]
    have hconf : s.closedIfDue.line.confinement = s.line.confinement := by rw [hclosed]
    have hstuck : s.closedIfDue.line.stuck = s.line.stuck := by rw [hclosed]
    rw [hconf, hstuck]
    by_cases hable : s.suppressed = false ∧ s.line.confinement ≠ .offline ∧ s.line.stuck = false
    · rw [if_pos hable]
      have hplaces : s.placesAtEnd s.leftAtEnd = s.leftAtEnd.all Frame.isNotice := by
        obtain ⟨hrecent, hon, hfree⟩ := hable
        simp [State.placesAtEnd, hexp, hrecent, hon, hfree]
      cases hall : s.leftAtEnd.all Frame.isNotice with
      | false => rw [LineState.placeOpening_of_queued _ _ (by rw [hclosed]; exact hall), hclosed, hplaces, hall]; simp
      | true => rw [LineState.placeOpening_of_notices _ _ (by rw [hclosed]; exact hall), hclosed, hplaces, hall]; simp
    · rw [if_neg hable]
      have hplaces : s.placesAtEnd s.leftAtEnd = false := by
        refine Classical.byContradiction fun hp => ?_
        simp only [State.placesAtEnd, Bool.not_eq_false, Bool.and_eq_true, Bool.not_eq_true', decide_eq_true_eq] at hp
        obtain ⟨⟨⟨⟨-, hrecent⟩, hon⟩, hfree⟩, -⟩ := hp
        exact hable ⟨hrecent, hon, hfree⟩
      rw [hclosed, hplaces]
      simp

/-- Without a close event due, the end of a frame leaves every block but round and line. -/
theorem State.frameEnded_of_not_due (hdue : s.closeDue = false) :
    s.frameEnded = { s with round := s.frameEnded.round, line := s.frameEnded.line } := by
  have hclosed : s.closedIfDue = s := by simp [State.closedIfDue, hdue]
  rw [State.frameEnded_eq, hclosed]
  split
  · apply State.eq_of_blocks <;> simp
  · rfl

/-- A close event writes the blocks of the round, the converter and the battery monitor (R12). -/
theorem State.frameEnded_of_due : s.frameEnded = { s with
    round := s.frameEnded.round, peers := s.frameEnded.peers, share := s.frameEnded.share, demand := s.frameEnded.demand
    line := s.frameEnded.line, conv := s.frameEnded.conv, batt := s.frameEnded.batt } := by
  apply State.eq_of_blocks <;> simp

theorem State.frameEnded_view (hdue : s.closeDue = true) : s.frameEnded.peers.view = assembleView s.peers.records
    ∧ s.frameEnded.share.inFlight = true ∧ s.frameEnded.demand.claimsOpen = false := by
  rw [State.frameEnded_eq]
  split <;> simp [State.closedIfDue, hdue, PeerState.assemble]

end

/-- Settles O32: the delimiter's end is the end of a frame that is not taken, on the line that the drop of the head leaves. -/
theorem delimiterEndOpensGap : Obligations.DelimiterEndOpensGap := by
  refine ⟨fun s => ⟨s.closeDue_iff, s.timerExpired_iff⟩, fun s hrun hphase hbits => ?_⟩
  intro opened left recent places
  have hopened : s.line.afterDelimiter = opened := LineState.afterDelimiter_eq _
  have hends : s.delimiterEnds = State.frameEnded { s with line := opened } := by rw [State.delimiterEnds_eq, hopened]
  have hplaces : State.placesAtEnd { s with line := opened } left = places := by
    simp only [State.placesAtEnd, State.suppressed_eq]
    rfl
  have hline := State.frameEnded_line_eq { s with line := opened } (by simp [opened])
  refine ⟨s.delimiterEnds, ?_, ?_, ?_, ?_, ?_⟩
  · rw [exec, execErrorDelimiterEnd, whenRunning_of_running _ hrun, if_pos (by simp [hphase, hbits])]
  · intro o
    have hcontents : (State.closedIfDue { s with line := opened }).openingContents = o := by
      rw [State.openingContents_eq]
      simp only [o, hends, State.frameEnded_round, State.closedIfDue_round, State.closedIfDue_supply, State.address]
    rw [hends, hline, hcontents, ← hplaces]
    rfl
  · rw [hends, State.frameEnded_round, State.suppressed_eq, State.skew_eq]
    simp only [Bool.or_comm s.round.missed]
    rfl
  · intro hdue
    rw [hends]
    have hoff : State.closeDue { s with line := opened } = false := hdue
    have hmark : { (State.frameEnded { s with line := opened }).round with viewOutage := s.round.viewOutage }
        = (State.frameEnded { s with line := opened }).round := by
      rw [State.frameEnded_round, hoff]
      rfl
    rw [hmark]
    exact State.frameEnded_of_not_due { s with line := opened } hoff
  · intro hdue
    rw [hends]
    obtain ⟨hview, hflight, hopen⟩ := State.frameEnded_view { s with line := opened } hdue
    exact ⟨hview, hflight, hopen, State.frameEnded_of_due { s with line := opened }⟩

end Sys2Proof.Machine

end

section
/-! ## The bit position and the sample -/

namespace Sys2Proof.Machine

/-! ### A cycle that ends a quantum -/

/-- The driver in the cycle that passes (R73, R105). -/
def State.driverNow (s : State) : Level :=
  if s.pins.driverFault.head? = some true ∧ s.mayDrive = true then .dominant else s.line.driver

/-- The level on the line in the cycle that passes (R73). -/
def State.levelNow (s : State) : Level :=
  if s.driverNow = .dominant then .dominant else s.pins.linePeers.head?.getD .recessive

/-- The state of a cycle whose bit position is still to advance: the clock, the comparator's level and the driver with its dominant time. -/
def State.cycled (s : State) : State :=
  { s with
    clock := s.clock + 1
    pins := { s.pins with riserHigh := s.pins.riserAhead.head?.getD s.pins.riserHigh, riserAhead := s.pins.riserAhead.tail }
    line := { s.line with
      driver := s.driverNow
      driveTime := if s.driverNow = .dominant then min 4000 (s.line.driveTime + 1) else 0 } }

section
variable {s : State} {b : BitPos}

theorem State.driverHeld_iff : s.driverHeld = true ↔ s.pins.driverFault.head? = some true ∧ s.mayDrive = true := by
  unfold State.driverHeld
  cases s.pins.driverFault.head? <;> simp

theorem State.countDrive_holdDriver : { s.holdDriver with line := s.holdDriver.line.countDrive } = { s with line := { s.line with
    driver := s.driverNow
    driveTime := if s.driverNow = .dominant then min 4000 (s.line.driveTime + 1) else 0 } } := by
  unfold State.holdDriver State.driverNow
  by_cases hheld : s.driverHeld = true
  · rw [if_pos hheld, if_pos (State.driverHeld_iff.1 hheld)]
    rfl
  · rw [if_neg hheld, if_neg (mt State.driverHeld_iff.2 hheld)]
    rfl

/-- A step on an empty queue at the last cycle of a quantum (log 1). -/
theorem step_of_quantum_end (hpending : s.pending = []) (hosc : s.supply.oscillator = .stable) (hbit : s.line.bitPos = some b)
    (hcycle : b.cycle = 9) : step s = .next (s.cycled.quantumEnds b) := by
  have htick : s.tick = s.cycled.quantumEnds b := by
    unfold State.tick
    dsimp only
    rw [if_pos (by simp [State.oscStable, hosc])]
    simp only [hbit]
    unfold State.lineCycle
    dsimp only
    rw [if_pos (by omega), State.countDrive_holdDriver]
    rfl
  simp only [step, hpending, htick]

@[simp] theorem State.cycled_lineLevel : s.cycled.lineLevel = s.levelNow := rfl

@[simp] theorem State.cycled_mayDrive : s.cycled.mayDrive = s.mayDrive := rfl

theorem State.cycled_edgeSeen : s.cycled.edgeSeen = (decide (s.line.seen = .recessive) && decide (s.levelNow = .dominant)) := rfl

theorem State.cycled_resyncs : s.cycled.resyncs b = (s.cycled.edgeSeen && s.line.frameInProgress && decide (s.driverNow = .recessive) && !b.resynced) :=
  rfl

theorem LineState.frameInProgress_iff (l : LineState) : l.frameInProgress = true ↔ l.phase = .frame ∨ l.phase = .error := by
  simp [LineState.frameInProgress]

/-- The bit position does not ask for the level that the driver takes. -/
theorem State.quantumEnds_bitPos (s : State) (b : BitPos) : (s.quantumEnds b).line.bitPos = some (s.resyncedBit b).afterSample.next := by
  rw [State.quantumEnds_eq]
  split <;> rfl

end

/-! ### Resynchronisation of a nominal bit -/

/-- The bit position after a resynchronising edge in a quantum of a bit of nominal length (R76). -/
theorem BitPos.next_of_nominal_edge (p : Nat) (hlo : 1 ≤ p) (hhi : p ≤ 16) :
    (BitPos.resync { cycle := 9, quantum := p, segA := 10, segB := 5, resynced := false }).afterSample.next =
      if p = 1 then { cycle := 0, quantum := 2, segA := 10, segB := 5, resynced := false }
      else if p ≤ 11 then { cycle := 0, quantum := p + 1, segA := 10 + min 2 (p - 1), segB := 5, resynced := true }
      else if p ≤ 13 then { cycle := 0, quantum := p + 1, segA := 10, segB := 3, resynced := true }
      else if p = 14 then { cycle := 0, quantum := 1, segA := 10, segB := 5, resynced := true }
      else { cycle := 0, quantum := 2, segA := 10, segB := 5, resynced := true } := by
  have hlt : p < 17 := Nat.lt_succ_of_le hhi
  clear hhi
  revert hlo
  revert hlt
  revert p
  decide

/-! ### The sample of a bit -/

/-- The error in hand after a sampled bit (R98, R99). -/
def LineState.errorSampled (l : LineState) (b : Level) : Option ErrorInHand :=
  if l.phase = .error then l.error.map fun e => { e with progress := e.progress.sampled e.flag b } else l.error

theorem LineState.phaseSample_eq (l : LineState) (b : Level) : l.phaseSample b = { l with
    recessiveRun := if l.phase ≠ .integrating then l.recessiveRun else if b = .recessive then min 9 (l.recessiveRun + 1) else 0
    gapBits := if l.phase = .gap then min 3 (l.gapBits + 1) else l.gapBits
    rxBits := if l.phase = .frame ∧ l.finished = none ∧ l.errorSeen = none then l.rxBits ++ [b] else l.rxBits
    error := l.errorSampled b } := by
  unfold LineState.phaseSample LineState.errorSampled
  cases hphase : l.phase with
  | frame => cases l.finished <;> cases l.errorSeen <;> simp <;> rw [← hphase]
  | integrating => simp
  | idle =>
    simp
    rw [← hphase]
  | error => simp
  | gap => simp

/-- The runs and counts that a sampled bit advances besides what the line phase adds (R104, R106). -/
theorem LineState.recoverySample_stuckSample (l : LineState) (b : Level) : (l.stuckSample b).recoverySample b = { l with
    dominantRun := if b = .dominant then min 400 (l.dominantRun + 1) else 0
    clearingRun := if b = .dominant then 0 else if l.stuck then min 12 (l.clearingRun + 1) else l.clearingRun
    recoveryBits := if ¬ (l.confinement = .offline ∧ l.stuck = false) then l.recoveryBits
      else if b = .dominant ∨ 12 ≤ l.recoveryBits + 1 then 0 else l.recoveryBits + 1
    recoveryRuns := if (l.confinement = .offline ∧ l.stuck = false) ∧ b = .recessive ∧ 12 ≤ l.recoveryBits + 1 then min 64 (l.recoveryRuns + 1)
      else l.recoveryRuns } := by
  by_cases hcounts : l.confinement = .offline ∧ l.stuck = false
  · obtain ⟨hoff, hfree⟩ := hcounts
    cases b with
    | dominant => simp [LineState.stuckSample, LineState.recoverySample, hoff, hfree]
    | recessive =>
      by_cases hrun : 12 ≤ l.recoveryBits + 1 <;> simp [LineState.stuckSample, LineState.recoverySample, hoff, hfree, hrun]
  · cases b <;> simp [LineState.stuckSample, LineState.recoverySample, hcounts]

/-- How a flag and its delimiter advance by the sample (R98, R99). -/
theorem FlagProgress.sampled_flag (kind : FlagKind) (n : Nat) (last b : Level) : (FlagProgress.flag n last).sampled kind b =
    if 6 ≤ (if kind = .active ∨ n = 0 ∨ b = last then n + 1 else 1) then .waiting
    else .flag (if kind = .active ∨ n = 0 ∨ b = last then n + 1 else 1) b := rfl

/-- What the quantum's edge and the sample at its end write, an edge being seen on a dominant line alone (R74, R75). -/
theorem LineState.sample_edgeIntegrating (l : LineState) (edge : Bool) (b : Level) (hedge : edge = true → b = .dominant) :
    LineState.sample { l.edgeIntegrating edge with seen := b } b = LineState.sample { l with seen := b } b := by
  unfold LineState.edgeIntegrating
  split
  next hrun =>
    obtain ⟨htrue, hphase⟩ := Bool.and_eq_true_iff.1 hrun
    have hdominant := hedge htrue
    have hphase := of_decide_eq_true hphase
    unfold LineState.sample
    rw [LineState.phaseSample_eq, LineState.phaseSample_eq]
    simp only [hphase, hdominant, ne_eq, not_true_eq_false, if_false, reduceCtorEq]
    rfl
  next => rfl

/-- The sample of a bit in whose last quantum before it the station does not resynchronise (R74). -/
theorem State.quantumEnds_line_of_sample {s : State} {b : BitPos} (hsample : b.quantum = 1 + b.segA) (hsegB : 1 ≤ b.segB)
    (hsync : s.resyncs b = false) : (s.quantumEnds b).line =
      { LineState.sample { s.line with seen := s.lineLevel } s.lineLevel with
        bitPos := some { b with cycle := 0, quantum := b.quantum + 1, resynced := false } } := by
  have hbit : s.resyncedBit b = b := by simp [State.resyncedBit, hsync]
  have hsamples : b.samples = true := by simp [BitPos.samples, hsample]
  have hafter : (s.resyncedBit b).afterSample = { b with resynced := false } := by simp [hbit, BitPos.afterSample, hsamples]
  have hmore : b.quantum < BitPos.last { b with resynced := false } := by
    simp only [BitPos.last]
    omega
  have hends : BitPos.ends { b with resynced := false } = false := by simpa [BitPos.ends] using hmore
  have hnext : BitPos.next { b with resynced := false } = { b with cycle := 0, quantum := b.quantum + 1, resynced := false } := by
    rw [BitPos.next, if_pos hmore]
  have hline : s.sampledLine b = LineState.sample { s.line with seen := s.lineLevel } s.lineLevel := by
    rw [State.sampledLine, hbit, if_pos hsamples]
    refine LineState.sample_edgeIntegrating _ _ _ fun h => ?_
    simp only [State.edgeSeen, Bool.and_eq_true, decide_eq_true_eq] at h
    exact h.2
  rw [State.quantumEnds_eq, hafter, hends, if_neg Bool.false_ne_true, State.quantumPassed, hafter, hnext, hline]

/-- Settles O6: a step at a quantum's last cycle ends it, with the resynchronisation and the sample that the quantum brings. -/
theorem bitTimingAndSamples : Obligations.BitTimingAndSamples := by
  refine ⟨fun s p hpending hosc hphase hdriver hseen hpeer hfault hlo hhi hbit => ?_, fun s b hpending hosc hbit hcycle hsample hsegB => ?_⟩
  · have hnow : s.driverNow = .recessive := by simp [State.driverNow, hfault, hdriver]
    have hlevel : s.levelNow = .dominant := by simp [State.levelNow, hnow, hpeer]
    have hsync : s.cycled.resyncs { cycle := 9, quantum := p, segA := 10, segB := 5, resynced := false } = true := by
      simp [State.cycled_resyncs, State.cycled_edgeSeen, hseen, hlevel, hnow, (LineState.frameInProgress_iff _).2 hphase]
    have hpos := State.quantumEnds_bitPos s.cycled { cycle := 9, quantum := p, segA := 10, segB := 5, resynced := false }
    rw [State.resyncedBit, if_pos hsync, BitPos.next_of_nominal_edge p hlo hhi] at hpos
    refine ⟨_, step_of_quantum_end hpending hosc hbit rfl, fun h => ?_, fun h h' => ?_, fun h h' => ?_, fun h => ?_, fun h => ?_⟩
    · rw [hpos, if_pos h]
    · rw [hpos, if_neg (by omega), if_pos h']
    · rw [hpos, if_neg (by omega), if_neg (by omega), if_pos h']
    · rw [hpos, if_neg (by omega), if_neg (by omega), if_neg (by omega), if_pos h]
    · rw [hpos, if_neg (by omega), if_neg (by omega), if_neg (by omega), if_neg (by omega)]
  · intro driver level run counts hedge
    have hsync : s.cycled.resyncs b = false := by
      refine Classical.byContradiction fun hsync => ?_
      simp only [State.cycled_resyncs, State.cycled_edgeSeen, LineState.frameInProgress_iff, Bool.not_eq_false, Bool.and_eq_true,
        Bool.not_eq_true', decide_eq_true_eq] at hsync
      obtain ⟨⟨⟨⟨hseen, hlevel⟩, hphase⟩, hdriver⟩, hfirst⟩ := hsync
      rcases hedge hseen hlevel hphase with h | h
      · exact absurd (h.symm.trans hdriver) (by decide)
      · simp [hfirst] at h
    have hline := State.quantumEnds_line_of_sample hsample hsegB hsync
    refine ⟨_, step_of_quantum_end hpending hosc hbit hcycle, ?_, ?_, ?_⟩
    · rw [hline, LineState.sample, LineState.recoverySample_stuckSample, LineState.phaseSample_eq]
      rfl
    · intro hphase
      rw [hline, LineState.sample, LineState.recoverySample_stuckSample, LineState.phaseSample_eq]
      exact if_neg hphase
    · intro e hphase he
      have herror : (s.cycled.quantumEnds b).line.error = some { e with progress := e.progress.sampled e.flag level } := by
        rw [hline, LineState.sample, LineState.recoverySample_stuckSample, LineState.phaseSample_eq]
        refine (if_pos hphase).trans ?_
        exact congrArg (Option.map _) he
      refine ⟨_, herror, fun n last hflag => ?_, fun hwaiting => ?_, fun n hdelimiter => ?_⟩
      · rw [hflag, FlagProgress.sampled_flag]
        exact ⟨fun h => if_neg (Nat.not_le.2 h), fun h => if_pos h⟩
      · rw [hwaiting]
        rfl
      · rw [hdelimiter]
        exact ⟨fun h => if_pos h, fun h => if_neg (Nat.not_le.2 h)⟩

end Sys2Proof.Machine

end

section
/-! ## Stuffing and arbitration -/

namespace Sys2Proof.Machine

/-! ### Fields as numbers (R78) -/

theorem fieldValue_foldl (bits : List Level) (acc : Nat) :
    bits.foldl (fun acc b => 2 * acc + b.toBool.toNat) acc = acc * 2 ^ bits.length + fieldValue bits := by
  induction bits generalizing acc with
  | nil => simp [fieldValue]
  | cons b bits ih =>
    simp only [fieldValue, List.foldl_cons, List.length_cons]
    rw [ih, ih (2 * 0 + _)]
    grind

theorem fieldValue_cons (b : Level) (bits : List Level) : fieldValue (b :: bits) = b.toBool.toNat * 2 ^ bits.length + fieldValue bits := by
  rw [fieldValue, List.foldl_cons, fieldValue_foldl, Nat.mul_zero, Nat.zero_add]

theorem fieldValue_lt (bits : List Level) : fieldValue bits < 2 ^ bits.length := by
  induction bits with
  | nil => simp [fieldValue]
  | cons b bits ih =>
    rw [fieldValue_cons, List.length_cons, Nat.pow_succ]
    cases b <;> simp [Level.toBool] <;> omega

@[simp] theorem fieldBits_length (w n : Nat) : (fieldBits w n).length = w := by
  induction w with
  | zero => rfl
  | succ w ih => simp [fieldBits, ih]

/-- A field of `w` bits gives back the number it was made from, modulo `2 ^ w` (R77, R78). -/
theorem fieldValue_fieldBits (w n : Nat) : fieldValue (fieldBits w n) = n % 2 ^ w := by
  induction w with
  | zero => simp [fieldBits, fieldValue, Nat.mod_one]
  | succ w ih =>
    rw [fieldBits, fieldValue_cons, ih, fieldBits_length, Nat.mod_pow_succ, Nat.add_comm, Nat.mul_comm]
    congr 1
    rw [← Nat.toNat_testBit]
    cases n.testBit w <;> rfl

/-- Of two fields of one length the lesser has a dominant bit where they first differ (R85). -/
theorem first_difference {a b : List Level} (hlen : a.length = b.length) (hlt : fieldValue a < fieldValue b) :
    ∃ p ra rb, a = p ++ .dominant :: ra ∧ b = p ++ .recessive :: rb := by
  induction a generalizing b with
  | nil => simp_all [List.length_eq_zero_iff.1 hlen.symm]
  | cons x a ih =>
    obtain - | ⟨y, b⟩ := b
    · simp at hlen
    have hlen' : a.length = b.length := by simpa using hlen
    rw [fieldValue_cons, fieldValue_cons, hlen'] at hlt
    have hsame (hxy : x = y) : ∃ p ra rb, x :: a = p ++ .dominant :: ra ∧ y :: b = p ++ .recessive :: rb := by
      subst hxy
      obtain ⟨p, ra, rb, ha, hb⟩ := ih hlen' (Nat.lt_of_add_lt_add_left hlt)
      exact ⟨x :: p, ra, rb, by rw [ha, List.cons_append], by rw [hb, List.cons_append]⟩
    have hbound := fieldValue_lt b
    cases x <;> cases y
    · exact hsame rfl
    · exact ⟨[], a, b, rfl, rfl⟩
    · simp only [Level.toBool, Bool.toNat_true, Bool.toNat_false] at hlt
      omega
    · exact hsame rfl

/-! ### Stuffing (R80) -/

/-- What stuffing makes of a beginning does not depend on what follows it. -/
theorem stuff_append (last : Level) (run : Nat) (a : List SentBit) :
    ∃ last' run', ∀ b, stuff last run (a ++ b) = stuff last run a ++ stuff last' run' b := by
  induction a generalizing last run with
  | nil => exact ⟨last, run, fun b => rfl⟩
  | cons x a ih =>
    by_cases hrun : (if x.level = last then run + 1 else 1) = 4
    · obtain ⟨last', run', h⟩ := ih x.level.flip 1
      exact ⟨last', run', fun b => by simp [stuff, hrun, h]⟩
    · obtain ⟨last', run', h⟩ := ih x.level (if x.level = last then run + 1 else 1)
      exact ⟨last', run', fun b => by simp [stuff, hrun, h]⟩

theorem stuff_cons (last : Level) (run : Nat) (x : SentBit) (b : List SentBit) : ∃ r, stuff last run (x :: b) = x :: r := by
  by_cases hrun : (if x.level = last then run + 1 else 1) = 4
  · exact ⟨_, by rw [stuff, if_pos hrun]⟩
  · exact ⟨_, by rw [stuff, if_neg hrun]⟩

theorem stuff_tags (last : Level) (run : Nat) (a : List SentBit) (ha : ∀ x ∈ a, x.tag ≠ .ack) : ∀ x ∈ stuff last run a, x.tag ≠ .ack := by
  induction a generalizing last run with
  | nil => simp [stuff]
  | cons x a ih =>
    have hx := ha x (by simp)
    have htail (last : Level) (run : Nat) := ih last run fun y hy => ha y (by simp [hy])
    by_cases hrun : (if x.level = last then run + 1 else 1) = 4
    · simpa [stuff, hrun, hx] using htail _ _
    · simpa [stuff, hrun, hx] using htail _ _

/-! ### The transmitter's comparison (R73, R85, R92) -/

/-- A level that the line carries for a sent bit: the bit's own, but in the acknowledge slot. -/
def SentBit.onLine (ack : Level) (b : SentBit) : Level := if b.tag = .ack then ack else b.level

theorem lineBits_eq (f : Frame) (ack : Level) : lineBits f ack = (sentBits f).map (SentBit.onLine ack) := rfl

theorem SentBit.onLine_of_ne {ack : Level} {b : SentBit} (h : b.tag ≠ .ack) : b.onLine ack = b.level := if_neg h

/-- A transmitter alone on the line completes, whatever its acknowledge slot reads. -/
theorem compareSent_onLine (ack : Level) (ws bs : List SentBit) :
    compareSent (ws ++ bs) (ws.map (SentBit.onLine ack)) = compareSent bs [] := by
  induction ws with
  | nil => simp
  | cons w ws ih =>
    rw [List.cons_append, List.map_cons, compareSent]
    split
    · exact ih
    next hne =>
      have htag : w.tag = .ack := by
        refine Classical.byContradiction fun h => ?_
        exact hne (SentBit.onLine_of_ne h).symm
      rw [htag]
      exact ih

/-- A transmitter that samples its own bits goes on with the rest. -/
theorem compareSent_level (ws bs : List SentBit) (ls : List Level) :
    compareSent (ws ++ bs) (ws.map SentBit.level ++ ls) = compareSent bs ls := by
  induction ws with
  | nil => rfl
  | cons w ws ih =>
    simp only [List.cons_append, List.map_cons, compareSent, if_true]
    exact ih

theorem compareSent_level_going {ws bs : List SentBit} (hbs : bs ≠ []) : compareSent (ws ++ bs) (ws.map SentBit.level) = .going := by
  obtain ⟨b, rest, rfl⟩ := List.exists_cons_of_ne_nil hbs
  simpa [compareSent] using compareSent_level ws (b :: rest) []

theorem compareSent_take_going {ws bs : List SentBit} (hbs : bs ≠ []) (j : Nat) :
    compareSent (ws ++ bs) ((ws.map SentBit.level).take j) = .going := by
  have hrest : ws.drop j ++ bs ≠ [] := by simp [hbs]
  have h := compareSent_level_going (ws := ws.take j) hrest
  rwa [← List.append_assoc, List.take_append_drop, List.map_take] at h

/-! ### Two frames that begin together (R85) -/

theorem arbitrationBits_length (f : Frame) : (arbitrationBits f).length = 10 := by
  cases f <;> simp [arbitrationBits]

/-- Frames whose arbitration fields differ are sent alike up to a bit of those fields, dominant in the lower one's frame. -/
theorem sentBits_first_difference {f g : Frame} (hlt : fieldValue (arbitrationBits f) < fieldValue (arbitrationBits g)) :
    ∃ p rf rg, (∀ x ∈ p, x.tag ≠ .ack) ∧ sentBits f = p ++ ⟨.arbitration, .dominant⟩ :: rf
      ∧ sentBits g = p ++ ⟨.arbitration, .recessive⟩ :: rg := by
  obtain ⟨p, ra, rb, hf, hg⟩ := first_difference ((arbitrationBits_length f).trans (arbitrationBits_length g).symm) hlt
  have hregion (h : Frame) (x : Level) (r : List Level) (hh : arbitrationBits h = p ++ x :: r) : ∃ rest, regionBits h
      = (⟨.plain, .dominant⟩ :: p.map (SentBit.mk .arbitration)) ++ ⟨.arbitration, x⟩ :: rest :=
    ⟨_, by rw [regionBits, hh, List.map_append, List.map_cons, List.append_assoc]; rfl⟩
  obtain ⟨last, run, hstuff⟩ := stuff_append .recessive 0 (⟨.plain, .dominant⟩ :: p.map (SentBit.mk .arbitration))
  have hsent (h : Frame) (x : Level) (r : List Level) (hh : arbitrationBits h = p ++ x :: r) : ∃ rest, sentBits h
      = stuff .recessive 0 (⟨.plain, .dominant⟩ :: p.map (SentBit.mk .arbitration)) ++ ⟨.arbitration, x⟩ :: rest := by
    obtain ⟨rest, hrest⟩ := hregion h x r hh
    obtain ⟨r', hr'⟩ := stuff_cons last run ⟨.arbitration, x⟩ rest
    exact ⟨r' ++ fixedTail, by rw [sentBits, hrest, hstuff, hr', List.append_assoc]; rfl⟩
  obtain ⟨rf, hrf⟩ := hsent f _ ra hf
  obtain ⟨rg, hrg⟩ := hsent g _ rb hg
  refine ⟨_, rf, rg, stuff_tags _ _ _ ?_, hrf, hrg⟩
  simp +contextual

/-- Settles O5: up to the first differing bit both senders sample what they sent; there the higher one loses. -/
theorem lowerFieldWinsArbitration : Obligations.LowerFieldWinsArbitration := by
  intro f g ack hlt
  obtain ⟨p, rf, rg, htags, hf, hg⟩ := sentBits_first_difference hlt
  have hprefix : p.map (SentBit.onLine ack) = p.map SentBit.level :=
    List.map_congr_left fun x hx => SentBit.onLine_of_ne (htags x hx)
  have hline : lineBits f ack = p.map SentBit.level ++ .dominant :: rf.map (SentBit.onLine ack) := by
    rw [lineBits_eq, hf, List.map_append, hprefix]
    rfl
  refine ⟨⟨p.length, ?_, ?_, fun j hj => ?_⟩, ?_⟩
  · simp [frameLength, hf]
  · have htake : (lineBits f ack).take (p.length + 1) = p.map SentBit.level ++ [.dominant] := by
      rw [hline, List.take_append, List.take_of_length_le (by simp)]
      simp
    rw [htake, hg, compareSent_level]
    rfl
  · have htake : (lineBits f ack).take j = (p.map SentBit.level).take j := by
      rw [hline, List.take_append_of_le_length (by simpa using hj)]
    rw [htake, hg, compareSent_take_going (by simp)]
  · have h := compareSent_onLine ack (sentBits f) []
    rwa [List.append_nil, ← lineBits_eq] at h

end Sys2Proof.Machine

end

section
/-! ## Frames sent and received -/

namespace Sys2Proof.Machine

/-! ### The receiver on a stuffed region (R81) -/

/-- A receiver that has found no error and not ended, with what it holds of the region. -/
def Receiver.within (content : List Level) (last : Level) (run : Nat) : Receiver := { content := content, last := last, run := run }

theorem Receiver.step_stuffed {r : Receiver} (hfault : r.fault = none) (hdone : r.done = false) (hregion : r.inRegion = true) (b : Level) :
    r.step b = r.stuffed b := by
  simp [Receiver.step, hfault, hdone, hregion]

theorem Receiver.step_tailBit {r : Receiver} (hfault : r.fault = none) (hdone : r.done = false) (hregion : r.inRegion = false) (b : Level) :
    r.step b = r.tailBit b := by
  simp [Receiver.step, hfault, hdone, hregion]

/-- The region's end lies behind every beginning of it that is not the whole (R77, R78). -/
def RegionRuns (content : List Level) (bs : List Level) : Prop :=
  ∀ p b q, bs = p ++ b :: q → (content ++ p).length < regionLength (content ++ p)

theorem RegionRuns.tail {content : List Level} {b : Level} {bs : List Level} (h : RegionRuns content (b :: bs)) :
    RegionRuns (content ++ [b]) bs := by
  intro p x q hbs
  have := h (b :: p) x q (by rw [hbs, List.cons_append])
  simpa using this

/-- A receiver that samples a stuffed region takes its content bits and no other (R80, R81). -/
theorem receive_stuff (bs : List SentBit) (content : List Level) (last : Level) (run : Nat) (hrun : run < 4)
    (hruns : RegionRuns content (bs.map SentBit.level)) :
    ∃ last' run', run' < 4 ∧ ((stuff last run bs).map SentBit.level).foldl Receiver.step (.within content last run)
      = .within (content ++ bs.map SentBit.level) last' run' := by
  induction bs generalizing content last run with
  | nil => exact ⟨last, run, hrun, by simp [stuff]⟩
  | cons b bs ih =>
    have hregion : (Receiver.within content last run).inRegion = true := by
      have := hruns [] b.level (bs.map SentBit.level) rfl
      have hmore : content.length < regionLength content := by simpa using this
      simp [Receiver.inRegion, Receiver.within, hmore]
    have hbit : (Receiver.within content last run).step b.level
        = .within (content ++ [b.level]) b.level (if b.level = last then run + 1 else 1) := by
      rw [Receiver.step_stuffed rfl rfl hregion, Receiver.stuffed, if_neg (by simp only [Receiver.within]; omega)]
      rfl
    have hcontent : content ++ (b :: bs).map SentBit.level = content ++ [b.level] ++ bs.map SentBit.level := by simp
    rw [hcontent]
    by_cases hfour : (if b.level = last then run + 1 else 1) = 4
    · have hremoved : (Receiver.within (content ++ [b.level]) b.level 4).step b.level.flip
          = .within (content ++ [b.level]) b.level.flip 1 := by
        rw [Receiver.step_stuffed rfl rfl (by simp [Receiver.inRegion, Receiver.within])]
        cases b.level <;> rfl
      rw [stuff]
      simp only [hfour, if_true, List.map_cons, List.foldl_cons, hbit, hremoved]
      exact ih _ _ 1 (by omega) hruns.tail
    · rw [stuff]
      simp only [hfour, if_false, List.map_cons, List.foldl_cons, hbit]
      refine ih _ _ _ ?_ hruns.tail
      by_cases hlast : b.level = last
      · rw [if_pos hlast] at hfour ⊢
        omega
      · rw [if_neg hlast]
        omega

/-! ### The region of a frame -/

/-- The content bits of a frame's stuffed region, start bit and check bits included (R77). -/
def regionLevels (f : Frame) : List Level :=
  .dominant :: (arbitrationBits f ++ (payloadBits f ++ checkBits (arbitrationBits f ++ payloadBits f)))

theorem regionBits_levels (f : Frame) : (regionBits f).map SentBit.level = regionLevels f := by
  simp [regionBits, regionLevels, Function.comp_def]

theorem regionBits_tags (f : Frame) : ∀ x ∈ regionBits f, x.tag ≠ .ack := by
  simp +contextual [regionBits, or_imp, forall_and]

theorem regionLevels_regionLength (f : Frame) : regionLength (regionLevels f) = (regionLevels f).length := by
  cases f <;> rfl

theorem regionRuns_regionLevels (f : Frame) : RegionRuns [] (regionLevels f) := by
  intro p b q hf
  have hlength := regionLevels_regionLength f
  rw [List.nil_append]
  by_cases hkind : 1 < p.length
  · have hsame : regionLength p = regionLength (regionLevels f) := by
      rw [hf, regionLength, regionLength, List.getElem?_append_left hkind]
    rw [hsame, hlength, hf]
    simp
  · have hleast : 30 ≤ regionLength p := by
      unfold regionLength
      split <;> omega
    omega

/-! ### The fixed tail (R77, R94, R95) -/

/-- A receiver that has taken the whole region of a frame, with the bits of the tail that it has sampled. -/
def Receiver.inTail (f : Frame) (last : Level) (run tail : Nat) (ack : Level) : Receiver :=
  { content := regionLevels f, last := last, run := run, tail := tail, ack := ack }

section
variable {f : Frame} {last ack : Level} {run : Nat}

theorem Receiver.inTail_classFault (tail : Nat) : (Receiver.inTail f last run tail ack).classFault = false := by
  cases f <;> rfl

theorem Receiver.inTail_checkOk (tail : Nat) : (Receiver.inTail f last run tail ack).checkOk = true := by
  refine decide_eq_true ?_
  cases f <;> rfl

theorem Receiver.inTail_inRegion (hrun : run < 4) (tail : Nat) : (Receiver.inTail f last run tail ack).inRegion = false := by
  have hshort : run ≠ 4 := by omega
  simp [Receiver.inTail, Receiver.inRegion, regionLevels_regionLength, hshort]

/-- A recessive bit of the tail but the acknowledge slot and the last (R94, R95). -/
theorem Receiver.inTail_step (hrun : run < 4) {tail : Nat} (hack : tail ≠ 1) (hlast : tail < 8) :
    (Receiver.inTail f last run tail ack).step .recessive = .inTail f last run (tail + 1) ack := by
  rw [Receiver.step_tailBit rfl rfl (Receiver.inTail_inRegion hrun tail)]
  have hclass := Receiver.inTail_classFault (f := f) (last := last) (run := run) (ack := ack) tail
  have hcheck := Receiver.inTail_checkOk (f := f) (last := last) (run := run) (ack := ack) tail
  match tail, hack with
  | 0, _ => rfl
  | 2, _ =>
    rw [Receiver.tailBit]
    simp only [hclass, hcheck]
    rfl
  | n + 3, _ =>
    have hmore : n ≠ 5 := by omega
    simp [Receiver.tailBit, Receiver.inTail, hmore]

theorem Receiver.inTail_step_ack (hrun : run < 4) (b : Level) :
    (Receiver.inTail f last run 1 ack).step b = .inTail f last run 2 b := by
  rw [Receiver.step_tailBit rfl rfl (Receiver.inTail_inRegion hrun 1)]
  rfl

theorem Receiver.inTail_step_last (hrun : run < 4) :
    (Receiver.inTail f last run 8 ack).step .recessive = { Receiver.inTail f last run 9 ack with done := true } := by
  rw [Receiver.step_tailBit rfl rfl (Receiver.inTail_inRegion hrun 8)]
  rfl

/-- A receiver of a whole region ends with the fixed tail, having found no error (R87, R94, R95). -/
theorem receive_fixedTail (hrun : run < 4) (b : Level) :
    (fixedTail.map (SentBit.onLine b)).foldl Receiver.step (.inTail f last run 0 ack)
      = { Receiver.inTail f last run 9 b with done := true } := by
  have htail : fixedTail.map (SentBit.onLine b)
      = [.recessive, b, .recessive, .recessive, .recessive, .recessive, .recessive, .recessive, .recessive] := rfl
  simp only [htail, List.foldl_cons, List.foldl_nil, Receiver.inTail_step_ack hrun, Receiver.inTail_step hrun, Receiver.inTail_step_last hrun,
    ne_eq, Nat.reduceEqDiff, Nat.reduceLT, Nat.reduceAdd, not_false_eq_true]

end

/-- Receiving a frame as sent (R77 to R87). -/
theorem receive_lineBits (f : Frame) (ack : Level) : ∃ last run,
    receive (lineBits f ack) = { Receiver.inTail f last run 9 ack with done := true } := by
  obtain ⟨last, run, hrun, hreceived⟩ := receive_stuff (regionBits f) [] .recessive 0 (by omega)
    (by rw [regionBits_levels]; exact regionRuns_regionLevels f)
  rw [regionBits_levels, List.nil_append] at hreceived
  have hregion : (stuff .recessive 0 (regionBits f)).map (SentBit.onLine ack) = (stuff .recessive 0 (regionBits f)).map SentBit.level :=
    List.map_congr_left fun x hx => SentBit.onLine_of_ne (stuff_tags _ _ _ (regionBits_tags f) x hx)
  refine ⟨last, run, ?_⟩
  calc receive (lineBits f ack)
      = (fixedTail.map (SentBit.onLine ack)).foldl Receiver.step
          (((stuff .recessive 0 (regionBits f)).map SentBit.level).foldl Receiver.step (.within [] .recessive 0)) := by
        rw [receive, lineBits_eq, sentBits, List.map_append, hregion, List.foldl_append]
        rfl
    _ = (fixedTail.map (SentBit.onLine ack)).foldl Receiver.step (.inTail f last run 0 .recessive) := by
        rw [hreceived]
        rfl
    _ = _ := receive_fixedTail hrun ack

/-! ### The fields of a region (R77, R78) -/

theorem addrOf_fieldBits (a : Addr) : addrOf (fieldBits 6 a.val) = a := by
  rw [addrOf, fieldValue_fieldBits, Nat.mod_eq_of_lt (by omega)]
  exact Fin.ofNat_val_eq_self a

theorem ofNat_fieldBits {w : Nat} (x : BitVec w) : BitVec.ofNat w (fieldValue (fieldBits w x.toNat)) = x := by
  rw [fieldValue_fieldBits, Nat.mod_eq_of_lt x.isLt, BitVec.ofNat_toNat, BitVec.setWidth_eq]

theorem classOfCode_fieldBits (c : ClaimClass) : classOfCode (fieldValue (fieldBits 3 (classCode c))) = c := by
  cases c <;> rfl

theorem decodeContent_regionLevels (f : Frame) : decodeContent (regionLevels f) = f := by
  cases f with
  | opening o =>
    have htempo : (if tempoBit o.tempo = .dominant then Tempo.fast else .slow) = o.tempo := by cases o.tempo <;> rfl
    calc decodeContent (regionLevels (.opening o))
        = .opening ⟨addrOf (fieldBits 6 o.addr.val), if tempoBit o.tempo = .dominant then .fast else .slow,
            BitVec.ofNat 8 (fieldValue (fieldBits 8 o.round.toNat))⟩ := rfl
      _ = .opening o := by rw [addrOf_fieldBits, htempo, ofNat_fieldBits]
  | notice n =>
    have houtage : (if outageBit n.outage = .dominant then MainsState.absent else .present) = n.outage := by cases n.outage <;> rfl
    calc decodeContent (regionLevels (.notice n))
        = .notice ⟨classOfCode (fieldValue (fieldBits 3 (classCode n.cls))), addrOf (fieldBits 6 n.addr.val),
            BitVec.ofNat 8 (fieldValue (fieldBits 8 n.request.toNat)), BitVec.ofNat 12 (fieldValue (fieldBits 12 n.estimate.toNat)),
            if outageBit n.outage = .dominant then .absent else .present⟩ := rfl
      _ = .notice n := by rw [classOfCode_fieldBits, addrOf_fieldBits, ofNat_fieldBits, ofNat_fieldBits, houtage]

/-! ### The driver at a bit's start (R73, R86, R97) -/

theorem State.mayDrive_iff (s : State) :
    s.mayDrive = true ↔ s.line.confinement ≠ .offline ∧ s.round.participation ≠ .listen ∧ s.line.stuck = false := by
  simp [State.mayDrive, and_assoc]

/-- The station transmits, and the next bit of its frame is dominant. -/
def LineState.SendsDominant (l : LineState) : Prop :=
  l.phase = .frame ∧ l.role = .transmitter ∧ ∃ f q w, l.queue = f :: q
    ∧ compareSent (sentBits f) l.rxBits = .going ∧ (sentBits f)[l.rxBits.length]? = some w ∧ w.level = .dominant

/-- The next bit is the acknowledge slot of a frame that the station receives and has found correct. -/
def LineState.Acknowledges (l : LineState) : Prop :=
  l.phase = .frame ∧ l.role = .receiver ∧ (receive l.rxBits).fault = none ∧ (receive l.rxBits).inRegion = false
    ∧ (receive l.rxBits).tail = 1 ∧ (receive l.rxBits).checkOk = true

/-- The next bit is one of the six of an active error flag. -/
def LineState.FlagsActive (l : LineState) : Prop :=
  l.phase = .error ∧ ∃ e run last, l.error = some e ∧ e.flag = .active ∧ e.progress = .flag run last ∧ run < 6

theorem Receiver.mayAck_iff (r : Receiver) :
    r.mayAck = true ↔ r.fault = none ∧ r.inRegion = false ∧ r.tail = 1 ∧ r.checkOk = true := by
  simp [Receiver.mayAck, and_assoc]

theorem LineState.wanted_of_transmitter {l : LineState} (hphase : l.phase = .frame) (hrole : l.role = .transmitter) :
    l.wanted = .dominant ↔ l.SendsDominant := by
  unfold LineState.wanted LineState.SendsDominant LineState.sendVerdict LineState.sending
  simp only [hphase, hrole, true_and]
  cases l.queue with
  | nil => simp [compareSent]
  | cons f q =>
    by_cases hgoing : compareSent (sentBits f) l.rxBits = .going
    · cases hbit : (sentBits f)[l.rxBits.length]? <;> simp [hgoing, hbit]
    · simp [hgoing]

theorem LineState.wanted_dominant_iff (l : LineState) : l.wanted = .dominant ↔ l.SendsDominant ∨ l.Acknowledges ∨ l.FlagsActive := by
  cases hphase : l.phase with
  | frame =>
    have hflags : ¬ l.FlagsActive := fun h => absurd (hphase.symm.trans h.1) (by decide)
    cases hrole : l.role with
    | transmitter =>
      have hacks : ¬ l.Acknowledges := fun h => absurd (hrole.symm.trans h.2.1) (by decide)
      simp [LineState.wanted_of_transmitter hphase hrole, hacks, hflags]
    | receiver =>
      simp only [LineState.wanted, hphase, hrole, LineState.SendsDominant, LineState.Acknowledges, LineState.FlagsActive]
      rw [LineState.receiver, ← Receiver.mayAck_iff]
      cases (receive l.rxBits).mayAck <;> simp
    | none => simp [LineState.wanted, hphase, hrole, LineState.SendsDominant, LineState.Acknowledges, LineState.FlagsActive]
  | error =>
    simp only [LineState.wanted, hphase, LineState.SendsDominant, LineState.Acknowledges, LineState.FlagsActive]
    cases l.error with
    | none => simp
    | some e =>
      obtain ⟨kind, role, flag, progress⟩ := e
      cases flag <;> cases progress <;> simp
  | integrating => simp [LineState.wanted, hphase, LineState.SendsDominant, LineState.Acknowledges, LineState.FlagsActive]
  | idle => simp [LineState.wanted, hphase, LineState.SendsDominant, LineState.Acknowledges, LineState.FlagsActive]
  | gap => simp [LineState.wanted, hphase, LineState.SendsDominant, LineState.Acknowledges, LineState.FlagsActive]

/-- A bit ends with its last quantum, whether or not an edge in it shortens the bit, and takes no sample there (R74, R76). -/
theorem State.resyncedBit_of_bit_end {s : State} {b : BitPos} (hend : b.quantum = 1 + b.segA + b.segB) (hsegB : 1 ≤ b.segB) :
    (s.resyncedBit b).afterSample.ends = true ∧ (s.resyncedBit b).samples = false := by
  have hshort : b.resync = { b with segB := b.segB - min 2 (b.last + 1 - b.quantum), resynced := true } := by
    rw [BitPos.resync, if_neg (by omega), if_neg (by omega)]
  have hsame (c : BitPos) (hq : c.quantum = b.quantum) (hA : c.segA = b.segA) (hB : c.segB ≤ b.segB) :
      c.afterSample.ends = true ∧ c.samples = false := by
    have hsamples : c.samples = false := by
      simp only [BitPos.samples, decide_eq_false_iff_not]
      omega
    refine ⟨?_, hsamples⟩
    simp only [BitPos.afterSample, hsamples, BitPos.ends, BitPos.last, Bool.false_eq_true, if_false, decide_eq_true_eq]
    omega
  unfold State.resyncedBit
  split
  · rw [hshort]
    exact hsame _ rfl rfl (Nat.sub_le _ _)
  · exact hsame _ rfl rfl (Nat.le_refl _)

/-- The level that the driver takes at the end of a bit (R73, R105). -/
theorem State.quantumEnds_driver_of_bit_end {s : State} {b : BitPos} (hend : b.quantum = 1 + b.segA + b.segB) (hsegB : 1 ≤ b.segB) :
    (s.quantumEnds b).line.driver = .dominant ↔
      s.mayDrive = true ∧ (s.line.wanted = .dominant ∨ s.pins.driverFault[1]? = some true) := by
  obtain ⟨hends, hunsampled⟩ := State.resyncedBit_of_bit_end (s := s) hend hsegB
  have hheld : (s.quantumPassed b).driverHeld = true ↔ s.pins.driverFault[1]? = some true ∧ s.mayDrive = true := by
    rw [State.driverHeld_iff, State.quantumPassed_mayDrive]
    simp [State.quantumPassed, List.head?_tail]
  have hwanted : (s.quantumPassed b).line.wanted = s.line.wanted := by
    have hsampled : s.sampledLine b = { s.line.edgeIntegrating s.edgeSeen with seen := s.lineLevel } := by
      rw [State.sampledLine, hunsampled, if_neg Bool.false_ne_true]
    rw [State.quantumPassed, hsampled]
    unfold LineState.edgeIntegrating
    split <;> rfl
  rw [State.quantumEnds_eq, if_pos hends]
  simp only [State.nextDrive, hwanted, State.quantumPassed_mayDrive]
  by_cases hfault : (s.quantumPassed b).driverHeld = true
  · obtain ⟨hstands, hmay⟩ := hheld.1 hfault
    simp [hfault, hstands, hmay]
  · rw [if_neg hfault]
    rw [hheld, and_comm, not_and] at hfault
    cases hmay : s.mayDrive with
    | false => simp
    | true => simp [hfault hmay]

/-- Settles O4: the receiver undoes stuffing and reads the fields back; the driver takes the level that the line controller asks for. -/
theorem receivedFrameIsSentFrame : Obligations.ReceivedFrameIsSentFrame := by
  refine ⟨fun f ack => ?_, State.mayDrive_iff, fun s b hpending hosc hbit hcycle hend hsegB => ?_⟩
  · obtain ⟨last, run, hreceived⟩ := receive_lineBits f ack
    rw [hreceived]
    exact ⟨congrArg some (decodeContent_regionLevels f), rfl⟩
  · intro sends acknowledges flags
    refine ⟨_, step_of_quantum_end hpending hosc hbit hcycle, ?_⟩
    have hwanted : s.cycled.line.wanted = .dominant ↔ sends ∨ acknowledges ∨ flags := s.line.wanted_dominant_iff
    rw [State.quantumEnds_driver_of_bit_end hend hsegB, hwanted, or_assoc, or_assoc]
    rfl

end Sys2Proof.Machine

end

section
/-! ## Starts, the step and the round timer -/

namespace Sys2Proof.Machine

/-! ### The step -/

/-- A cycle that passes touches the line controller and the levels of its pins (log 1). -/
theorem State.lineCycle_pins (s : State) (b : BitPos) : (s.lineCycle b).pins = { s.pins with
    linePeers := (s.lineCycle b).pins.linePeers, driverFault := (s.lineCycle b).pins.driverFault } := by
  unfold State.lineCycle
  dsimp only
  split
  · rw [State.quantumEnds_eq]
    split <;> simp [State.quantumPassed]
  · simp

/-- A cycle's blocks (log 1, log 7). -/
theorem State.tick_eq (s : State) : s.tick = { s with
    clock := s.clock + 1
    line := s.tick.line
    pins := { s.pins with
      linePeers := s.tick.pins.linePeers
      driverFault := s.tick.pins.driverFault
      riserHigh := s.pins.riserAhead.head?.getD s.pins.riserHigh
      riserAhead := s.pins.riserAhead.tail } } := by
  unfold State.tick
  dsimp only
  split
  · split
    · rfl
    · apply State.eq_of_blocks <;> simp
      exact State.lineCycle_pins _ _
  · rfl

/-- Settles O1. -/
theorem stepRunsFrontCommand : Obligations.StepRunsFrontCommand := by
  refine ⟨fun c rest s hpending => by simp only [step, hpending]; rfl, fun s hpending => ?_⟩
  refine ⟨s.tick, by simp only [step, hpending], ?_, ?_⟩
  · rw [State.tick_eq]
  · have hclock : s.tick.clock = s.clock + 1 := by rw [State.tick_eq]
    rw [hclock]
    exact s.tick_eq

/-! ### Reset and starts -/

/-- The state after reset meets every invariant of Safety.lean. -/
theorem reset_safe : (DriverSafe State.reset ∧ ConfinementAgrees State.reset ∧ ConverterSafe State.reset ∧ GatesExclusive State.reset)
    ∧ (SetpointsWithinTargets State.reset ∧ TestSafe State.reset ∧ TestConditions State.reset ∧ DischargeSafe State.reset)
    ∧ (ChargeSafe State.reset ∧ GrantsCleared State.reset ∧ QueueSafe State.reset ∧ PeersSafe State.reset)
    ∧ (TerminalSafe State.reset ∧ CountsInRange State.reset ∧ ResultsBounded State.reset) := by
  refine ⟨⟨?_, ?_, ?_, ?_⟩, ⟨?_, ?_, ?_, ?_⟩, ⟨?_, ?_, ?_, ?_⟩, ?_, ?_, ?_⟩
  · exact fun _ => ⟨rfl, rfl⟩
  · exact fun _ => rfl
  · exact fun _ => ⟨rfl, rfl, rfl, rfl⟩
  · exact fun h => absurd h.1 Bool.false_ne_true
  · exact fun h => absurd h (by decide)
  · unfold TestSafe
    decide
  · exact fun h => absurd h Bool.false_ne_true
  · unfold DischargeSafe
    decide
  · unfold ChargeSafe
    decide
  · unfold GrantsCleared
    decide
  · unfold QueueSafe QueueShape
    decide
  · exact ⟨List.Pairwise.nil, rfl⟩
  · unfold TerminalSafe
    decide
  · simp [CountsInRange, LineRanges, ConverterRanges, BatteryRanges, PeerRanges, EventsInPhase, State.reset]
  · exact Nat.zero_le 4

/-- Settles O3. -/
theorem resetHoldsStartValues : Obligations.ResetHoldsStartValues := by
  obtain ⟨⟨hdriver, hconf, hconv, hgates⟩, ⟨hset, htest, hcond, hdis⟩, ⟨hcharge, hgrants, hqueue, hpeers⟩, hterm, hcounts, hresults⟩ := reset_safe
  simp only [Obligations.ResetHoldsStartValues, hdriver, hconf, hconv, hgates, hset, htest, hcond, hdis, hcharge, hgrants, hqueue, hpeers,
    hterm, hcounts, hresults, and_true]
  simp [State.reset, State.statusLevel, State.powerEnable, State.holdLine, TerminalMode.powerEnable, TerminalMode.holdLine]

/-- A command other than a start and the loss of the store leaves a part in reset as it stands (log 2). -/
theorem exec_in_reset {s : State} (hreset : s.supply.power = .reset) {c : Instr} (hstart : ∀ p, c ≠ .start p)
    (hstore : c ≠ .retainedStoreLoss) : exec c s = .next s := by
  cases c
  case start p => exact absurd rfl (hstart p)
  case retainedStoreLoss => exact absurd rfl hstore
  all_goals exact congrArg _ (whenRunning_of_reset _ hreset)

/-- Settles O11. -/
theorem dipEntersReset : Obligations.DipEntersReset := by
  refine ⟨fun s hrun => ?_, fun s hreset => ?_, fun c s hreset hstart hstore => exec_in_reset hreset hstart hstore⟩
  · refine ⟨s.inReset, ?_, ?_⟩
    · rw [exec, execSupplyDipReset, whenRunning_of_running _ hrun, State.askSleep_of_no_request rfl]
    · cases hmode : s.term.mode <;> simp [State.inReset, hmode, State.statusLevel, State.powerEnable, State.holdLine, TerminalMode.powerEnable,
        TerminalMode.holdLine]
  · rw [exec, execRetainedStoreLoss, if_pos hreset]

theorem firstKeepAlive_eq (onset : Time) (a : Addr) : firstKeepAlive onset a = onset + (60 + 15 * a.val) * 3200000 := by
  simp only [firstKeepAlive, sec]
  grind

theorem firstDue_eq (onset : Time) (a : Addr) (interval : Option Time) :
    firstDue onset a interval = interval.map fun _ => onset + (600 + 60 * a.val) * 3200000 := by
  have hsum : onset + sec 600 + sec (60 * a.val) = onset + (600 + 60 * a.val) * 3200000 := by
    simp only [sec]
    grind
  rw [firstDue, hsum]

/-- Settles O12. -/
theorem startTakesStartValues : Obligations.StartTakesStartValues := by
  intro p s hreset
  refine ⟨s.started p, by rw [exec, execStart, if_pos hreset], ?_⟩
  simp [State.started, firstKeepAlive_eq, firstDue_eq, ms, sec]

/-! ### The oscillator -/

/-- The blocks at the moment the oscillator is STABLE, a status frame that was due still to start (R109, R163). -/
def State.oscillatorRuns (s : State) : State :=
  { s with
    supply := { s.supply with oscillator := .stable }
    line := { s.line with phase := .integrating, role := .none, bitPos := some {}, seen := .recessive, recessiveRun := 0, rxBits := [] }
    conv := { s.conv with
      timeBase := some { nextPeriod := s.clock + s.switchOffset, nextMeasure := s.clock + ms 1 }
      onTime := .none } }

/-- Settles O14. -/
theorem oscillatorBecomesStable : Obligations.OscillatorBecomesStable := by
  intro s since hrun hosc hstood hfree
  refine ⟨s.oscillatorStable, ?_, ?_⟩
  · rw [exec, execFastOscillatorStable, whenRunning_of_running _ hrun, hosc]
    exact congrArg (Host.Outcome.next ∘ State.askSleep) (if_pos hstood)
  · have hstarts : s.oscillatorStable = if s.status.pending then s.oscillatorRuns.startStatus else s.oscillatorRuns := by
      have hnone : s.oscillatorRuns.status.frame.isNone = true := by simp [State.oscillatorRuns, hfree]
      change (if s.oscillatorRuns.status.pending && s.oscillatorRuns.status.frame.isNone then _ else _) = _
      rw [hnone, Bool.and_true]
      rfl
    rw [hstarts]
    cases s.status.pending <;> exact ⟨rfl, rfl, rfl, rfl, rfl⟩

/-! ### The timers of the round -/

/-- Settles O22. -/
theorem joinTimerMakesMember : Obligations.JoinTimerMakesMember := by
  intro s e hrun hlisten htimer hexpired hreference
  refine ⟨s.joinExpires, ?_, ?_⟩
  · rw [exec, execJoinTimerExpiry, whenRunning_of_running _ hrun, htimer]
    exact congrArg (Host.Outcome.next ∘ State.askSleep) (if_pos ⟨hlisten, hexpired⟩)
  · have hretarget (hidle : s.conv.mode ≠ .run) : s.joinExpires.conv = s.conv ∧ s.joinExpires.batt = s.batt := by
      unfold State.joinExpires
      simp [State.retarget, hidle]
    refine ⟨?_, ?_, hretarget, ?_⟩
    · simpa using hreference
    · simp [State.skew_eq]
    · apply State.eq_of_blocks <;> simp [State.joinExpires]

/-! ### Offering the head frame -/

section
variable {s : State}

theorem State.mayOffer_opening {o : Opening} {q : List Frame} (hosc : s.supply.oscillator = .stable) (hmember : s.round.participation = .member)
    (honline : s.line.confinement ≠ .offline) (hclear : s.line.stuck = false) (hwait : s.line.extraWait = .none)
    (hqueue : s.line.queue = .opening o :: q) : s.mayOffer = true := by
  simp [State.mayOffer, State.oscStable, hosc, hmember, honline, hclear, hwait, hqueue]

/-- Off an idle line, with an oscillator that is not STABLE or with an extra wait, no frame is begun (R84, R102). -/
theorem State.offer_of_waiting (hwaits : s.line.phase ≠ .idle ∨ s.supply.oscillator ≠ .stable ∨ s.line.extraWait ≠ .none) : s.offer = s := by
  refine if_neg fun h => ?_
  obtain ⟨hosc, -, -, -, hnone, -⟩ := State.mayOffer_head h.2
  rcases hwaits with hphase | hosc' | hwait
  · exact hphase h.1
  · exact hosc' hosc
  · exact hwait hnone

theorem State.offer_of_idle (hphase : s.line.phase = .idle) (hmay : s.mayOffer = true) : s.offer = s.beginFrame .transmitter :=
  if_pos ⟨hphase, hmay⟩

/-! ### The round timer -/

theorem State.suppressed_iff : s.suppressed = true ↔ ∃ v, s.round.lastValid = some v ∧ s.clock ≤ v + 200 * 3200 := by
  rw [State.suppressed_eq]
  cases s.round.lastValid <;> simp

theorem State.rearm_eq : s.rearm = { s with round := { s.round with
    timer := some (s.clock + period s.round.tempo + 2 * (s.address.val + 1) * 3200) } } := by
  rw [State.rearm, State.skew_eq]

theorem State.handleExpiry_of_suppressed (h : s.suppressed = true) : s.handleExpiry = { s with round := { s.round with
    missed := true, timer := some (s.clock + period s.round.tempo + 2 * (s.address.val + 1) * 3200) } } := by
  rw [State.handleExpiry, if_pos h, State.rearm_eq]
  rfl

theorem State.handleExpiry_of_barred (h : s.suppressed = false) (hbarred : ¬ (s.line.confinement ≠ .offline ∧ s.line.stuck = false)) :
    s.handleExpiry = s.rearm := by
  rw [State.handleExpiry, if_neg (by simp [h]), if_neg hbarred]

theorem State.handleExpiry_of_able (h : s.suppressed = false) (hable : s.line.confinement ≠ .offline ∧ s.line.stuck = false) :
    s.handleExpiry = State.offer { s.rearm with line := s.line.placeOpening s.openingContents } := by
  rw [State.handleExpiry, if_neg (by simp [h]), if_pos hable]
  rfl

end

/-- Settles O21: the expiry is handled at once, and the frame at the head of the queue is offered. -/
theorem roundTimerOpensRound : Obligations.RoundTimerOpensRound := by
  intro s e hrun hmember htimer hexpired hframe herror armed o suppressed able waits queued begun placed answers
  have hexec : exec .roundTimerExpiry s = .next s.handleExpiry.askSleep := by
    have hexp : s.timerExpired = true := s.timerExpired_iff.2 ⟨hmember, e, htimer, hexpired⟩
    rw [exec, execRoundTimerExpiry, whenRunning_of_running _ hrun, if_pos (by simp [hexp, LineState.frameInProgress, hframe, herror])]
  have hanswers {l : LineState} (h : s.handleExpiry = { s.rearm with line := l }) : answers l := by
    change exec .roundTimerExpiry s = _
    rw [hexec, h, State.rearm_eq]
  have hsupp : suppressed ↔ s.suppressed = true := State.suppressed_iff.symm
  have hcontents : s.openingContents = o := s.openingContents_eq
  have hplaced (hnone : ¬ queued) : s.line.placeOpening o = placed := by
    refine s.line.placeOpening_of_notices o (List.all_eq_true.2 fun f hf => ?_)
    refine Classical.byContradiction fun hopening => ?_
    exact hnone ⟨f, hf, by simpa using hopening⟩
  have hkept (hsome : queued) : s.line.placeOpening s.openingContents = s.line := by
    obtain ⟨f, hf, hopening⟩ := hsome
    refine s.line.placeOpening_of_queued _ (List.all_eq_false.2 ⟨f, hf, ?_⟩)
    simp [hopening]
  have hready (hnot : ¬ waits) : s.line.phase = .idle ∧ s.supply.oscillator = .stable ∧ s.line.extraWait = .none := by
    simpa [waits, not_or] using hnot
  rw [hsupp, Bool.not_eq_true]
  refine ⟨fun h => by rw [hexec, State.handleExpiry_of_suppressed h], fun h hbarred => ?_, fun h hable hqueued => ⟨fun hwaits => ?_, fun hwaits => ?_⟩,
    fun h hable hqueued hwaits => ?_, fun h hable o' q hqueue hwaits => ?_⟩
  · exact hanswers (State.handleExpiry_of_barred h hbarred)
  · refine hanswers ?_
    rw [State.handleExpiry_of_able h hable, hcontents, hplaced hqueued]
    exact State.offer_of_waiting hwaits
  · refine hanswers ?_
    obtain ⟨hphase, hosc, hwait⟩ := hready hwaits
    rw [State.handleExpiry_of_able h hable, hcontents, hplaced hqueued]
    refine (State.offer_of_idle ?_ (State.mayOffer_opening (o := o) (q := s.line.queue) ?_ ?_ ?_ ?_ ?_ ?_)).trans rfl
    · exact hphase
    · exact hosc
    · exact hmember
    · exact hable.1
    · exact hable.2
    · exact hwait
    · exact rfl
  · refine hanswers ?_
    rw [State.handleExpiry_of_able h hable, hkept hqueued]
    exact State.offer_of_waiting hwaits
  · refine hanswers ?_
    obtain ⟨hphase, hosc, hwait⟩ := hready hwaits
    have hqueued : queued := ⟨.opening o', by simp [hqueue], rfl⟩
    rw [State.handleExpiry_of_able h hable, hkept hqueued]
    refine (State.offer_of_idle ?_ (State.mayOffer_opening (o := o') (q := q) ?_ ?_ ?_ ?_ ?_ ?_)).trans rfl
    · exact hphase
    · exact hosc
    · exact hmember
    · exact hable.1
    · exact hable.2
    · exact hwait
    · exact hqueue

end Sys2Proof.Machine

end

section
/-! ## On-times, latches and the latch interval -/

namespace Sys2Proof.Machine

/-! ### On-times and switching periods -/

theorem State.onTimeSince_of_running {s : State} {t : Time} (hmode : s.conv.mode = .run) (hon : s.conv.onTime = .running t) :
    s.onTimeSince = some t := by
  simp [State.onTimeSince, hmode, hon]

/-- Settles O37. -/
theorem onTimeEnds : Obligations.OnTimeEnds := by
  intro s since hrun hmode hon ended
  have hsince := State.onTimeSince_of_running hmode hon
  refine ⟨fun hlong => ?_, fun hblanked => ?_, ?_, ?_⟩
  · have hcycles (n : Nat) (h : 18000 * 16 ≤ 5000 * n) : 288 ≤ 5 * n := by omega
    rw [exec, execOnTimeEnd, whenRunning_of_running _ hrun, hsince]
    exact congrArg (Host.Outcome.next ∘ State.askSleep) (if_pos (hlong.imp_right (hcycles _)))
  · rw [exec, execPeakLimit, whenRunning_of_running _ hrun, hsince]
    exact congrArg (Host.Outcome.next ∘ State.askSleep) (if_pos hblanked)
  · rw [exec, execRailLimit, whenRunning_of_running _ hrun, hsince]
    rfl
  · rw [exec, execRailHigh, whenRunning_of_running _ hrun, hsince]
    rfl

/-- The gates and the on-time of a switching period (R109, R116, R121). -/
theorem ConverterState.beginPeriod_eq (c : ConverterState) (now : Time) : c.beginPeriod now = { c with
    onTime := if c.mode = .run ∧ c.riserLowShut = false ∧ 0 < c.command then .running now else .none
    gateHigh := decide (c.mode = .run ∧ c.riserLowShut = false ∧ 0 < c.command)
    gateLow := decide (c.mode = .run ∧ c.riserLowShut = false ∧ c.command = 0) } := by
  unfold ConverterState.beginPeriod
  by_cases hswitches : c.mode = .run ∧ c.riserLowShut = false
  · obtain ⟨hmode, hopen⟩ := hswitches
    by_cases hcommand : 0 < c.command
    · simp [hmode, hopen, hcommand, Nat.ne_of_gt hcommand]
    · simp [hmode, hopen, Nat.eq_zero_of_not_pos hcommand]
  · rw [if_neg hswitches]
    simp [← and_assoc, hswitches]

theorem ConverterState.settledPeakRun_eq (c : ConverterState) : c.settledPeakRun = if c.onTime = .ended then c.peakRun else 0 := by
  unfold ConverterState.settledPeakRun
  cases c.onTime <;> simp

/-- Both gates off, with what it makes of a running on-time (R117). -/
theorem State.gatesOff_eq (s : State) : s.gatesOff = { s with conv := { s.conv with
    gateHigh := false, gateLow := false, onTime := s.gatesOff.conv.onTime, peakRun := s.gatesOff.conv.peakRun } } := by
  unfold State.gatesOff
  split <;> rfl

theorem State.gatesOff_of_running {s : State} {t : Time} (h : s.conv.onTime = .running t) :
    s.gatesOff.conv.onTime = .ended ∧ s.gatesOff.conv.peakRun = 0 := by
  simp [State.gatesOff, h]

theorem State.gatesOff_peakRun_zero {s : State} (h : s.conv.peakRun = 0) : s.gatesOff.conv.peakRun = 0 := by
  unfold State.gatesOff
  split <;> simp [h]

/-- Settles O36. -/
theorem switchingPeriodAndRiserLowGate : Obligations.SwitchingPeriodAndRiserLowGate := by
  refine ⟨fun s tb hrun htb hdue => ?_, fun s hrun hopen => ?_, fun s hrun => ?_⟩
  · refine ⟨{ s with conv := ConverterState.beginPeriod { s.conv with
        timeBase := some { tb with nextPeriod := tb.nextPeriod + 64 }, peakRun := s.conv.settledPeakRun } s.clock }, ?_, ?_⟩
    · rw [exec, execSwitchingPeriodStart, whenRunning_of_running _ hrun, htb]
      exact congrArg (Host.Outcome.next ∘ State.askSleep) (if_pos hdue)
    · simp only [ConverterState.beginPeriod_eq, ConverterState.settledPeakRun_eq]
      refine ⟨by simp, fun hhigh => ?_, fun hlow => ?_, trivial, trivial, trivial⟩
      · have hon := of_decide_eq_true hhigh
        refine ⟨decide_eq_false fun hoff => ?_, if_pos hon⟩
        exact absurd hoff.2.2 (Nat.ne_of_gt hon.2.2)
      · exact if_neg (of_decide_eq_false hlow)
  · refine ⟨State.gatesOff { s with conv := { s.conv with riserLowShut := true } }, ?_, ?_⟩
    · rw [exec, execRiserLowGateShut, whenRunning_of_running _ hrun, if_neg (by simp [hopen])]
    · rw [State.gatesOff_eq]
      exact ⟨rfl, rfl, rfl, fun since hon => State.gatesOff_of_running hon, rfl⟩
  · rw [exec, execRiserLowGateOpen, whenRunning_of_running _ hrun]

/-! ### Latches -/

@[simp] theorem State.abortTest_conv (s : State) (v : Verdict) : (s.abortTest v).conv = s.conv := by simp

theorem State.converterStops_peakRun_zero {s : State} (h : s.conv.peakRun = 0) (m : ConverterMode) : (s.converterStops m).conv.peakRun = 0 := by
  simpa [State.converterStops] using State.gatesOff_peakRun_zero h

/-- Leaving RUN stops the converter and leaves no test in flight (R113, R114, R156). -/
theorem State.leaveRun_stopped (s : State) (m : ConverterMode) : (s.leaveRun m).conv.mode = m ∧ (s.leaveRun m).conv.gateHigh = false
    ∧ (s.leaveRun m).conv.gateLow = false ∧ (s.leaveRun m).conv.feedSetpoint = 0 ∧ (s.leaveRun m).conv.chargeSetpoint = 0
    ∧ (s.leaveRun m).conv.latchMark = s.conv.latchMark ∧ (s.leaveRun m).conv.latchCount = s.conv.latchCount
    ∧ (s.leaveRun m).conv.intervalTimer = s.conv.intervalTimer ∧ (s.conv.peakRun = 0 → (s.leaveRun m).conv.peakRun = 0)
    ∧ (s.leaveRun m).test.context = none := by
  have hconv : (s.leaveRun m).conv = (s.converterStops m).conv := by simp [State.leaveRun]
  obtain ⟨hmode, hhigh, hlow, hfeed, hcharge, hmark, hcount, -, -, htimer⟩ := s.converterStops_conv m
  rw [hconv]
  exact ⟨hmode, hhigh, hlow, hfeed, hcharge, hmark, hcount, htimer, fun h => State.converterStops_peakRun_zero h m, State.abortTest_context _ _⟩

/-- Settles O38. -/
theorem latchesStopConverter : Obligations.LatchesStopConverter := by
  refine ⟨fun s hrun hmode hpeak hcount => ?_, fun s hrun hmode => ?_, fun s hrun hmode => ?_⟩
  · have hnext : min 3 (s.conv.latchCount + 1) = s.conv.latchCount + 1 := by omega
    have hthird : (if s.conv.latchCount + 1 = 3 then ConverterMode.disabled else .held) = if s.conv.latchCount + 1 < 3 then .held else .disabled := by
      by_cases hlast : s.conv.latchCount + 1 = 3
      · rw [if_pos hlast, if_neg (by omega)]
      · rw [if_neg hlast, if_pos (by omega)]
    have hlatches : s.latches = State.leaveRun { s with conv := { s.conv with
        peakRun := 0, latchMark := true, latchCount := s.conv.latchCount + 1 } } (if s.conv.latchCount + 1 < 3 then .held else .disabled) := by
      simp only [State.latches, hnext, hthird]
    obtain ⟨hm, hhigh, hlow, hfeed, hcharge, hmark, hcounted, -, hpeakRun, hcontext⟩ := State.leaveRun_stopped { s with conv := { s.conv with
        peakRun := 0, latchMark := true, latchCount := s.conv.latchCount + 1 } } (if s.conv.latchCount + 1 < 3 then .held else .disabled)
    rw [← hlatches] at hm hhigh hlow hfeed hcharge hmark hcounted hpeakRun hcontext
    refine ⟨s.latches, ?_, hpeakRun rfl, hmark, hcounted, hm, hhigh, hlow, hfeed, hcharge, hcontext, ?_⟩
    · rw [exec, execPersistLatch, whenRunning_of_running _ hrun, if_pos ⟨hmode, hpeak⟩]
    · apply State.eq_of_blocks <;> simp
  · obtain ⟨hm, hhigh, hlow, hfeed, hcharge, hmark, hcounted, -, -, hcontext⟩ :=
      State.leaveRun_stopped { s with pins := { s.pins with riserHigh := true } } .held
    refine ⟨State.leaveRun { s with pins := { s.pins with riserHigh := true } } .held, ?_, hm, hmark, hcounted, hhigh, hlow, hfeed, hcharge, hcontext, ?_⟩
    · rw [exec, execRiserHighLatch, whenRunning_of_running _ hrun]
      exact congrArg (Host.Outcome.next ∘ State.askSleep) (if_pos hmode)
    · apply State.eq_of_blocks <;> simp
  · rw [exec, execRiserHighLatch, whenRunning_of_running _ hrun]
    exact congrArg (Host.Outcome.next ∘ State.askSleep) (if_neg hmode)

/-- The converter as it enters RUN: at rest with setpoints 0, or HELD at once by a riser above 60.00 V (R114, R119, R122). -/
theorem State.enterRun_conv (s : State) : s.enterRun.conv.mode = (if s.pins.riserHigh then .held else .run)
    ∧ s.enterRun.conv.feedSetpoint = 0 ∧ s.enterRun.conv.chargeSetpoint = 0 ∧ s.enterRun.conv.latchMark = s.conv.latchMark
    ∧ s.enterRun.conv.latchCount = s.conv.latchCount ∧ s.enterRun.conv.intervalTimer = s.conv.intervalTimer
    ∧ (s.conv.gateHigh = false → s.conv.gateLow = false → s.enterRun.conv.gateHigh = false ∧ s.enterRun.conv.gateLow = false) := by
  have hentered : s.enterRun = if s.pins.riserHigh then s.runEntered.leaveRun .held else s.runEntered := rfl
  rw [hentered]
  split
  · obtain ⟨hm, hhigh, hlow, hfeed, hcharge, hmark, hcount, htimer, -, -⟩ := s.runEntered.leaveRun_stopped .held
    refine ⟨hm, hfeed, hcharge, hmark.trans ?_, hcount.trans ?_, htimer.trans ?_, fun _ _ => ⟨hhigh, hlow⟩⟩ <;> simp [State.runEntered]
  · simp +contextual [State.runEntered]

/-- Settles O39. -/
theorem intervalBoundaryReleasesHeld : Obligations.IntervalBoundaryReleasesHeld := by
  intro s hrun hdue
  refine ⟨s.intervalBoundary.raiseCarry, ?_, ?_⟩
  · rw [exec, execIntervalTimerExpiry, whenRunning_of_running _ hrun, if_pos hdue]
  · have hblocks : s.intervalBoundary.raiseCarry = { s with
        conv := s.intervalBoundary.raiseCarry.conv, batt := s.intervalBoundary.raiseCarry.batt
        term := s.intervalBoundary.raiseCarry.term, test := s.intervalBoundary.raiseCarry.test } := by
      apply State.eq_of_blocks <;> simp
    have hconv : s.intervalBoundary.raiseCarry.conv = s.intervalBoundary.conv := by simp
    rw [hconv] at hblocks ⊢
    by_cases hheld : s.conv.mode = .held
    · by_cases hfit : riserFit s.conv.window = true
      · have hboundary : s.intervalBoundary = State.enterRun { s with conv := s.conv.intervalEnded s.clock } := by
          rw [State.intervalBoundary_eq, if_pos hheld, if_pos hfit]
        obtain ⟨hmode, hfeed, hcharge, hmark, hcount, htimer, hgates⟩ := State.enterRun_conv { s with conv := s.conv.intervalEnded s.clock }
        rw [← hboundary] at hmode hfeed hcharge hmark hcount htimer hgates
        refine ⟨hmark, hcount, htimer, fun _ hsafe => ?_, fun _ => by rw [if_pos hfit]; exact hmode, fun hnot => absurd hheld hnot, hblocks⟩
        obtain ⟨hhigh, hlow, -⟩ := hsafe (by simp [hheld])
        exact ⟨hfeed, hcharge, hgates hhigh hlow⟩
      · have hboundary : s.intervalBoundary = { s with conv := { s.conv.intervalEnded s.clock with mode := .riserAbsent } } := by
          rw [State.intervalBoundary_eq, if_pos hheld, if_neg hfit]
        refine ⟨by rw [hboundary]; rfl, by rw [hboundary]; rfl, by rw [hboundary]; rfl, fun _ hsafe => ?_,
          fun _ => by rw [hboundary, if_neg hfit], fun hnot => absurd hheld hnot, hblocks⟩
        obtain ⟨hhigh, hlow, hfeed, hcharge⟩ := hsafe (by simp [hheld])
        rw [hboundary]
        exact ⟨hfeed, hcharge, hhigh, hlow⟩
    · have hboundary : s.intervalBoundary = { s with conv := s.conv.intervalEnded s.clock } := by
        rw [State.intervalBoundary_eq, if_neg hheld]
      refine ⟨by rw [hboundary]; rfl, by rw [hboundary]; rfl, by rw [hboundary]; rfl, fun h => absurd h hheld, fun h => absurd h hheld,
        fun _ => by rw [hboundary]; rfl, hblocks⟩

end Sys2Proof.Machine

end

section
/-! ## Test phases, wakes and the timers of the terminal -/

namespace Sys2Proof.Machine

/-! ### The carry request (R151) -/

theorem Band.testable_iff (b : Band) : b.testable = true ↔ b = .full ∨ b = .good := by
  cases b <;> simp [Band.testable]

theorem TerminalState.testable_iff (t : TerminalState) : t.testable = true ↔ t.mode = .hold ∨ (t.mode = .active ∧ t.demand = .idle) := by
  simp [TerminalState.testable]

/-- The conditions of the carry request other than the due flag (R151). -/
abbrev State.CarryMayRise (s : State) : Prop :=
  s.supply.mains = .absent
    ∧ (s.term.mode = .hold ∨ (s.term.mode = .active ∧ s.term.demand = .idle)) ∧ (s.batt.band = .full ∨ s.batt.band = .good)
    ∧ s.test.context = none ∧ s.test.inHand = none ∧ (s.conv.mode = .idle ∨ s.conv.mode = .run)
    ∧ s.round.participation = .member ∧ s.round.referenced = true ∧ s.line.confinement ≠ .offline

theorem State.carryDue_iff (s : State) : s.carryDue = true ↔ s.test.carry = false ∧ s.test.due = true ∧ s.CarryMayRise := by
  simp only [State.carryDue, State.CarryMayRise, State.inOutage, Bool.and_eq_true, Bool.not_eq_true', Bool.or_eq_true, decide_eq_true_eq,
    Band.testable_iff, TerminalState.testable_iff, Option.isNone_iff_eq_none]
  grind

theorem State.raiseCarry_eq (s : State) : s.raiseCarry = { s with test := { s.test with carry := s.test.carry || s.carryDue } } := by
  apply State.eq_of_blocks <;> simp [State.raiseCarry_test]

/-! ### The phases of a test -/

/-- Settles O43. -/
theorem testDueAndPhaseEnds : Obligations.TestDueAndPhaseEnds := by
  refine ⟨fun s d hrun hschedule hdue => ?_, fun s c hrun hcontext => ⟨fun hphase hevents => ?_, fun hphase hevents => ?_⟩⟩
  · have hcarry : (s.test.carry || State.carryDue { s with test := { s.test with due := true } })
        = (s.test.carry || decide s.CarryMayRise) := by
      rw [Bool.eq_iff_iff, Bool.or_eq_true, Bool.or_eq_true, State.carryDue_iff, decide_eq_true_eq]
      change _ ∨ (s.test.carry = false ∧ true = true ∧ s.CarryMayRise) ↔ _
      cases s.test.carry <;> simp
    rw [exec, execTestDue, whenRunning_of_running _ hrun, hschedule]
    refine congrArg (Host.Outcome.next ∘ State.askSleep) ((if_pos hdue).trans ?_)
    rw [State.raiseCarry_eq]
    exact congrArg (fun b => { s with test := { s.test with due := true, carry := b } }) hcarry
  · have hdiv : c.settleCurr / 64 = Int.fdiv c.settleCurr 64 := (Int.fdiv_eq_ediv_of_nonneg _ (by omega)).symm
    rw [exec, execSettleEnd, whenRunning_of_running _ hrun, hcontext, ← hdiv]
    exact congrArg (Host.Outcome.next ∘ State.askSleep) (if_pos ⟨hphase, Nat.le_of_eq hevents.symm⟩)
  · have hdiv : c.loadCurr / 180 = Int.fdiv c.loadCurr 180 := (Int.fdiv_eq_ediv_of_nonneg _ (by omega)).symm
    rw [exec, execLoadEnd, whenRunning_of_running _ hrun, hcontext, ← hdiv]
    exact congrArg (Host.Outcome.next ∘ State.askSleep) (if_pos ⟨hphase, Nat.le_of_eq hevents.symm⟩)

/-! ### The resistance -/

theorem resistanceVerdict_eq (c : Chemistry) (n : Nat) : resistanceVerdict c n =
    let limits : Nat × Nat := if c = .leadAcid then (60, 120) else (40, 80)
    if n ≤ limits.1 then .pass else if n ≤ limits.2 then .weak else .fail := by
  cases c <;> rfl

/-- Settles O45. -/
theorem resistanceWritesRecord : Obligations.ResistanceWritesRecord := by
  intro s r hrun hhand hstage ohms limits verdict
  have hverdict : resistanceVerdict s.chemistry ohms = verdict := resistanceVerdict_eq _ _
  refine ⟨s.resistanceKnown r, ?_, ?_⟩
  · rw [exec, execResistanceComputed, whenRunning_of_running _ hrun, hhand]
    exact congrArg (Host.Outcome.next ∘ State.askSleep) (if_pos hstage)
  · have htest : (s.resistanceKnown r).test = { s.test with
        results := ({ kind := .pulse, verdict := verdict, value := some ohms, round := s.round.number, band := r.startBand }
          :: s.test.results).take 4
        schedule := s.testInterval.map (fun d => r.startTime + d), due := false, inHand := none
        carry := (s.resistanceKnown r).test.carry } := by
      rw [State.resistanceKnown, State.raiseCarry_eq, ← hverdict]
      rfl
    refine ⟨by rw [htest], by rw [htest], by rw [htest], by rw [htest], s.resistanceKnown_share r, ?_⟩
    apply State.eq_of_blocks <;> simp

/-! ### Wakes -/

/-- The condition of a wake that may be made, with no test in flight (R139). -/
def State.WakeGate (s : State) : Prop :=
  s.supply.mains = .present ∨ s.batt.band = .full ∨ s.batt.band = .good ∨ s.batt.band = .low
    ∨ (s.batt.band = .reserve ∧ (s.term.demand = .emergency ∨ s.bootDraw ≤ s.share.feedGrant))
    ∨ (s.batt.band = .cutoff ∧ s.bootDraw ≤ s.share.feedGrant)

theorem State.wakeAllowed_iff (s : State) : s.wakeAllowed = true ↔ s.test.context = none ∧ s.WakeGate := by
  unfold State.wakeAllowed State.WakeGate State.testInFlight
  cases s.test.context <;> by_cases hmains : s.supply.mains = .present <;> cases s.batt.band <;> simp [hmains]

section
variable {s : State}

/-- A wake requested with its gating fulfilled and the ready line not asserted is a boot from this moment (R139, R140). -/
theorem State.requestWake_of_gate (hfree : s.test.context = none) (hgate : s.WakeGate) (hready : s.pins.ready = false) :
    s.requestWake = { s with
      term := { s.term with
        mode := .booting, bootTimer := some s.clock, idleTimer := none, retryWait := none, wakePending := false
        wakeMark := decide (s.term.mode = .hold) }
      test := { s.test with wakeCheck := if s.term.mode = .hold then some s.batt.band else s.test.wakeCheck } } := by
  rw [State.requestWake, if_pos (s.wakeAllowed_iff.2 ⟨hfree, hgate⟩), State.makeWake_of_not_ready hready]

/-- A wake requested with a test in flight or without its gating stays pending (R139). -/
theorem State.requestWake_of_barred (hbarred : s.test.context ≠ none ∨ ¬ s.WakeGate) :
    s.requestWake = { s with term := { s.term with wakePending := true } } := by
  rw [State.requestWake, if_neg]
  rw [s.wakeAllowed_iff, Classical.not_and_iff_not_or_not]
  exact hbarred

/-- A pending wake whose gating comes to hold, the ready line not asserted, is made (R139, R140). -/
theorem State.regateWake_of_gate (hpending : s.term.wakePending = true) (hband : s.batt.band ≠ .unrated)
    (hmode : s.term.mode = .hold ∨ s.term.mode = .off) (hfree : s.test.context = none) (hgate : s.WakeGate) (hready : s.pins.ready = false) :
    s.regateWake = { s with
      term := { s.term with
        mode := .booting, bootTimer := some s.clock, idleTimer := none, retryWait := none, wakePending := false
        wakeMark := decide (s.term.mode = .hold) }
      test := { s.test with wakeCheck := if s.term.mode = .hold then some s.batt.band else s.test.wakeCheck } } := by
  rw [State.regateWake_eq, if_pos ⟨hpending, decide_eq_true hband, hmode, s.wakeAllowed_iff.2 ⟨hfree, hgate⟩⟩, State.makeWake_of_not_ready hready]

theorem State.regateWake_of_barred (hbarred : s.test.context ≠ none ∨ ¬ s.WakeGate) : s.regateWake = s := by
  rw [State.regateWake_eq, if_neg]
  rintro ⟨-, -, -, hallowed⟩
  obtain ⟨hfree, hgate⟩ := s.wakeAllowed_iff.1 hallowed
  exact hbarred.elim (· hfree) (· hgate)

theorem State.regateWake_of_none (hnone : s.term.wakePending = false) : s.regateWake = s := by
  rw [State.regateWake_eq, if_neg (by simp [hnone])]

theorem State.raiseCarry_of_not_due (h : ¬ s.CarryMayRise) : s.raiseCarry = s :=
  if_neg fun hdue => h (s.carryDue_iff.1 hdue).2.2

end

/-! ### The end of a test -/

/-- The blocks as a test ends, the terminal still to be told (R129, R155, R156). -/
def State.testCleared (s : State) : State :=
  State.examineCharge { s.releaseHold with test := { s.releaseHold.test with gate := false, context := none, carry := false, carryCount := 0 } }

section
variable (s : State)

theorem State.endTest_eq : s.endTest = s.testCleared.terminalTestEnded := rfl

theorem State.testCleared_frame : s.testCleared.clock = s.clock ∧ s.testCleared.supply = s.supply ∧ s.testCleared.pins = s.pins
    ∧ s.testCleared.round = s.round ∧ s.testCleared.share = s.share ∧ s.testCleared.term = s.term ∧ s.testCleared.batt.band = s.batt.band
    ∧ s.testCleared.test = { s.test with gate := false, context := none, carry := false, carryCount := 0 } := by
  cases h : s.batt.hold <;> simp [State.testCleared, State.releaseHold, h]

/-- The terminal is told of a test's end where no deferred hold is made: only a pending wake is gated (R143, R148). -/
theorem State.terminalTestEnded_of_not_active {s : State} (hmode : s.term.mode ≠ .active) :
    s.terminalTestEnded = State.regateWake { s with term := { s.term with deferredHold := false } } := by
  simp [State.terminalTestEnded, hmode]

/-- Without a pending wake the end of a test writes no record (R148). -/
theorem State.endTest_results {s : State} (hnone : s.term.wakePending = false) : s.endTest.test.results = s.test.results
    ∧ s.endTest.test.wakeCheck = s.test.wakeCheck := by
  obtain ⟨-, -, -, -, -, hterm, -, htest⟩ := s.testCleared_frame
  rw [State.endTest_eq, State.terminalTestEnded]
  split <;> rw [State.regateWake_of_none] <;> simp [hterm, htest, hnone]

/-- The end of a test does not change what gates a wake, but for the test itself (R139). -/
theorem State.testCleared_wakeGate : s.testCleared.WakeGate ↔ s.WakeGate := by
  obtain ⟨-, hsupply, -, -, hshare, hterm, hband, -⟩ := s.testCleared_frame
  simp [State.WakeGate, hsupply, hshare, hterm, hband, State.bootDraw, State.profile]

end

section
variable {s : State}

/-- A pending wake that the end of a test lets through (R148). -/
theorem State.endTest_wake_made (hpending : s.term.wakePending = true) (hband : s.batt.band ≠ .unrated)
    (hmode : s.term.mode = .hold ∨ s.term.mode = .off) (hgate : s.WakeGate) (hready : s.pins.ready = false) :
    s.endTest.term = { s.term with
        mode := .booting, bootTimer := some s.clock, idleTimer := none, retryWait := none, wakePending := false
        wakeMark := decide (s.term.mode = .hold), deferredHold := false }
      ∧ s.endTest.test.wakeCheck = if s.term.mode = .hold then some s.batt.band else s.test.wakeCheck := by
  obtain ⟨hclock, -, hpins, -, -, hterm, hband', htest⟩ := s.testCleared_frame
  have hactive : s.testCleared.term.mode ≠ .active := by rcases hmode with h | h <;> simp [hterm, h]
  rw [State.endTest_eq, State.terminalTestEnded_of_not_active hactive, State.regateWake_of_gate]
  · simp [hterm, hclock, hband', htest]
  · exact (congrArg TerminalState.wakePending hterm).trans hpending
  · exact hband'.symm ▸ hband
  · exact hterm.symm ▸ hmode
  · exact congrArg TestState.context htest
  · exact s.testCleared_wakeGate.2 hgate
  · exact (congrArg PinState.ready hpins).trans hready

theorem State.endTest_wake_barred (hmode : s.term.mode = .hold ∨ s.term.mode = .off) (hgate : ¬ s.WakeGate) :
    s.endTest.term = { s.term with deferredHold := false } := by
  obtain ⟨-, -, -, -, -, hterm, -, -⟩ := s.testCleared_frame
  have hactive : s.testCleared.term.mode ≠ .active := by rcases hmode with h | h <;> simp [hterm, h]
  rw [State.endTest_eq, State.terminalTestEnded_of_not_active hactive, State.regateWake_of_barred]
  · simp [hterm]
  · exact .inr fun h => hgate (s.testCleared_wakeGate.1 h)

/-- DONE does not raise the carry request again: a result is in hand, or the due flag is clear (R150, R151). -/
theorem State.testDone_eq (c : TestContext) : s.testDone c = s.endTest.resultOf c := by
  refine if_neg fun hdue => ?_
  obtain ⟨-, hdue, -, -, -, -, hhand, -⟩ := (State.carryDue_iff _).1 hdue
  unfold State.resultOf at hdue hhand
  split at hdue <;> simp_all

theorem TestContext.loadGood_iff (c : TestContext) : c.loadGood = true ↔ 500 ≤ c.iLoad - c.iRest ∧ c.iLoad - c.iRest ≤ 16383 := by
  rw [TestContext.loadGood, Bool.and_eq_true, decide_eq_true_eq, decide_eq_true_eq]
  rfl

end

/-- Settles O44. -/
theorem testDoneHandsResult : Obligations.TestDoneHandsResult := by
  intro s c hrun hcontext hphase hevents hhold hhand
  obtain ⟨hend, hgate, hcarry, hcount, hschedule, hdue, hkept⟩ := s.endTest_test
  obtain ⟨hreleased, hband, -, hwindow, heval⟩ := s.endTest_batt
  rw [hhold, if_pos rfl] at hwindow heval
  have hshare : s.endTest.share = s.share := by simp
  have hclock : s.endTest.clock = s.clock := by simp
  have hexec : exec .testDone s = .next (s.endTest.resultOf c).askSleep := by
    rw [exec, execTestDone, whenRunning_of_running _ hrun, hcontext, ← State.testDone_eq]
    exact congrArg (Host.Outcome.next ∘ State.askSleep) (if_pos ⟨hphase, Nat.le_of_eq hevents.symm⟩)
  have hterm : (s.endTest.resultOf c).term = s.endTest.term := by simp
  have htest : (s.endTest.resultOf c).test = if c.loadGood then { s.endTest.test with
      inHand := some { deltaV := c.deltaV, deltaI := c.deltaI.toNat, startBand := c.startBand, startTime := c.startTime } }
      else ((s.endTest.addResult .pulse .badLoad none c.startBand).setDue (s.endTest.dueAfter c.startTime)).test := by
    unfold State.resultOf
    split <;> rfl
  have hshare' : (s.endTest.resultOf c).share = if c.loadGood then s.share.askStage .test s.clock else s.share := by
    unfold State.resultOf
    split <;> simp
  obtain ⟨hnone, hoff, hzero, hcheck⟩ : (s.endTest.resultOf c).test.context = none ∧ (s.endTest.resultOf c).test.gate = false
      ∧ (s.endTest.resultOf c).test.carryCount = 0 ∧ (s.endTest.resultOf c).test.wakeCheck = s.endTest.test.wakeCheck := by
    rw [htest]
    split <;> exact ⟨hend, hgate, hcount, rfl⟩
  refine ⟨_, hexec, hnone, hoff, ?_, ?_, ?_, ?_, hzero, fun hlo hhi => ?_, fun hbad => ?_, fun hpending hrated hmode => ?_, ?_⟩
  · simpa using hreleased
  · simpa using hwindow
  · simpa using heval
  · simpa using hband
  · have hgood := c.loadGood_iff.2 ⟨hlo, hhi⟩
    rw [htest, hshare', if_pos hgood, if_pos hgood]
    refine ⟨rfl, fun hnone => (State.endTest_results hnone).1, hcarry, fun hfree => ?_, fun hbusy => ?_⟩
    · simp [ShareState.askStage, hfree]
    · simp [ShareState.askStage, hbusy]
  · have hbad' : ¬ c.loadGood = true := by
      rw [c.loadGood_iff]
      omega
    rw [htest, hshare', if_neg hbad', if_neg hbad']
    refine ⟨hkept.trans hhand, rfl, hcarry, rfl, ?_, ?_⟩
    · simp [State.dueAfter, State.testInterval]
    · simp
  · intro allowed
    refine ⟨fun hallowed hready => ?_, fun hbarred => ?_⟩
    · rw [hterm, hcheck]
      exact State.endTest_wake_made hpending hrated hmode hallowed hready
    · rw [hterm, State.endTest_wake_barred hmode hbarred]
  · apply State.eq_of_blocks <;> simp

/-! ### The terminal's timers -/

theorem State.bootLimit_eq (s : State) : ([45, 60, 90, 120][s.profile]?).getD 0 = s.bootLimit ∧ ([450, 600, 900, 1200][s.profile]?).getD 0 = 10 * s.bootLimit := by
  have hlt := s.profile_lt
  unfold State.bootLimit
  generalize s.profile = p at hlt ⊢
  revert p
  decide

/-- Settles O48. -/
theorem bootTimeoutRetriesThenFaults : Obligations.BootTimeoutRetriesThenFaults := by
  intro s began hrun hmode hboot hlimit
  obtain ⟨hlimits, htenths⟩ := s.bootLimit_eq
  rw [hlimits, Nat.mul_comm] at hlimit
  refine ⟨s.bootTimesOut, ?_, ?_, fun hfirst => ?_, fun hsecond => ?_, ?_⟩
  · rw [exec, execBootTimeout, whenRunning_of_running _ hrun, hboot]
    exact congrArg (Host.Outcome.next ∘ State.askSleep) (if_pos ⟨hmode, hlimit⟩)
  · rw [htenths]
    unfold State.bootTimesOut
    dsimp only
    split <;> rfl
  · have hten : s.clock + sec 10 = s.clock + 10 * 3200000 := rfl
    rw [State.bootTimesOut, if_pos hfirst, hten]
    rfl
  · rw [State.bootTimesOut, if_neg hsecond]
    rfl
  · apply State.eq_of_blocks <;> simp

/-- Terminal moves leave the keep-alive schedule (R147). -/
theorem State.powerTests_keepAlive (s : State) : s.powerTests.term.keepAlive = s.term.keepAlive := by
  unfold State.powerTests State.forcedHold State.cutoffOff
  dsimp only
  (repeat' split) <;> rfl

theorem State.enterBooting_keepAlive (s : State) : s.enterBooting.term.keepAlive = s.term.keepAlive := by
  unfold State.enterBooting State.bootReady State.enterActive
  (repeat' split) <;> simp [State.powerTests_keepAlive]

theorem State.requestWake_keepAlive (s : State) : s.requestWake.term.keepAlive = s.term.keepAlive := by
  unfold State.requestWake State.makeWake
  (repeat' split) <;> simp [State.enterBooting_keepAlive]

/-- The state in which the retry wait has ended and the wake of the retried boot is requested (R141). -/
def State.retryWaitEnded (s : State) : State := { s with term := { s.term with retryWait := none } }

/-- The state in which the keep-alive schedule has moved on and a wake is requested (R147). -/
def State.keepAliveMoved (s : State) (t : Time) : State := { s with term := { s.term with keepAlive := some (t + 1200 * 3200000) } }

section
variable {s : State}

theorem State.retry_made (hmode : s.term.mode = .off) (hfree : s.test.context = none) (hgate : s.WakeGate) (hready : s.pins.ready = false) :
    s.retryWaitEnded.requestWake = { s with term := { s.term with
      mode := .booting, bootTimer := some s.clock, idleTimer := none, retryWait := none, wakePending := false, wakeMark := false } } := by
  rw [State.requestWake_of_gate (s := s.retryWaitEnded) hfree hgate hready]
  simp [State.retryWaitEnded, hmode]

theorem State.retry_barred (hbarred : s.test.context ≠ none ∨ ¬ s.WakeGate) :
    s.retryWaitEnded.requestWake = { s with term := { s.term with retryWait := none, wakePending := true } } :=
  State.requestWake_of_barred (s := s.retryWaitEnded) hbarred

theorem State.keepAlive_made (k : Time) (hmode : s.term.mode = .hold) (hfree : s.test.context = none) (hgate : s.WakeGate)
    (hready : s.pins.ready = false) : (s.keepAliveMoved k).requestWake = { s with
      term := { s.term with
        mode := .booting, bootTimer := some s.clock, idleTimer := none, retryWait := none, wakePending := false, wakeMark := true
        keepAlive := some (k + 1200 * 3200000) }
      test := { s.test with wakeCheck := some s.batt.band } } := by
  rw [State.requestWake_of_gate (s := s.keepAliveMoved k) hfree hgate hready]
  simp [State.keepAliveMoved, hmode]

theorem State.keepAlive_barred (k : Time) (hbarred : s.test.context ≠ none ∨ ¬ s.WakeGate) :
    (s.keepAliveMoved k).requestWake = { s with term := { s.term with keepAlive := some (k + 1200 * 3200000), wakePending := true } } :=
  State.requestWake_of_barred (s := s.keepAliveMoved k) hbarred

end

/-- Settles O49. -/
theorem terminalTimersExpire : Obligations.TerminalTimersExpire := by
  refine ⟨fun s e hrun hmode hreason hwait hend => ?_, fun s b hrun hmode htimer hend => ⟨fun htest => ?_, fun hfree => ?_⟩,
    fun s k hrun htime hdue => ⟨fun hmode => ?_, fun hband => ?_, fun hmode hband => ?_⟩⟩
  · have hexec : exec .retryWaitExpiry s = .next s.retryWaitEnded.requestWake.raiseCarry.askSleep := by
      rw [exec, execRetryWaitExpiry, whenRunning_of_running _ hrun, hwait]
      exact congrArg (Host.Outcome.next ∘ State.askSleep) (if_pos ⟨hmode, hreason, hend⟩)
    refine ⟨fun hmains hfree hready => ?_, fun hmains hband hdemand hgrant => ?_, ?_⟩
    · rw [hexec, State.retry_made hmode hfree (.inl hmains) hready, State.raiseCarry_of_not_due]
      simp [hmains]
    · have hgate : ¬ s.WakeGate := by simp [State.WakeGate, hmains, hband, hdemand, hgrant]
      rw [hexec, State.retry_barred (.inr hgate), State.raiseCarry_of_not_due]
      simp [hband]
    · intro allowed
      have hterm : s.retryWaitEnded.requestWake.raiseCarry.term = s.retryWaitEnded.requestWake.term := by simp
      refine ⟨_, hexec, fun hfree hallowed hready => ?_, fun hbarred => ?_, fun hready => ?_, ?_⟩
      · rw [hterm, State.retry_made hmode hfree hallowed hready]
      · rw [hterm, State.retry_barred hbarred]
      · rw [State.raiseCarry_eq]
        by_cases hgate : s.test.context = none ∧ s.WakeGate
        · rw [State.retry_made hmode hgate.1 hgate.2 hready]
        · rw [State.retry_barred (Classical.not_and_iff_not_or_not.1 hgate)]
      · apply State.eq_of_blocks <;> simp [State.retryWaitEnded]
  · have hflight : s.testInFlight = true := by simpa [State.testInFlight, Option.isSome_iff_ne_none] using htest
    rw [exec, execIdleTimerExpiry, whenRunning_of_running _ hrun, htimer]
    exact congrArg (Host.Outcome.next ∘ State.askSleep) ((if_pos ⟨hmode, hend⟩).trans (if_pos hflight))
  · have hflight : ¬ s.testInFlight = true := by simp [State.testInFlight, hfree]
    have hterm : s.enterHold.raiseCarry.term = { s.term with mode := .hold, idleTimer := none, bootTimer := none } := by simp
    refine ⟨s.enterHold.raiseCarry, ?_, hterm, ?_, ?_, ?_⟩
    · rw [exec, execIdleTimerExpiry, whenRunning_of_running _ hrun, htimer]
      exact congrArg (Host.Outcome.next ∘ State.askSleep) ((if_pos ⟨hmode, hend⟩).trans (if_neg hflight))
    · rw [State.powerEnable, hterm]
      rfl
    · rw [State.holdLine, hterm]
      rfl
    · apply State.eq_of_blocks <;> simp
  · rw [exec, execKeepAliveTime, whenRunning_of_running _ hrun, htime]
    exact congrArg (Host.Outcome.next ∘ State.askSleep) ((if_pos hdue).trans (if_neg fun h => hmode h.2))
  · rw [exec, execKeepAliveTime, whenRunning_of_running _ hrun, htime]
    exact congrArg (Host.Outcome.next ∘ State.askSleep) ((if_pos hdue).trans (if_neg fun h => absurd hband (of_decide_eq_true h.1)))
  · intro allowed
    have hexec : exec .keepAliveTime s = .next (s.keepAliveMoved k).requestWake.raiseCarry.askSleep := by
      rw [exec, execKeepAliveTime, whenRunning_of_running _ hrun, htime]
      exact congrArg (Host.Outcome.next ∘ State.askSleep) ((if_pos hdue).trans (if_pos ⟨decide_eq_true hband, hmode⟩))
    have hterm : (s.keepAliveMoved k).requestWake.raiseCarry.term = (s.keepAliveMoved k).requestWake.term := by simp
    refine ⟨_, hexec, ?_, fun hfree hallowed hready => ?_, fun hbarred => ?_, ?_⟩
    · rw [hterm, State.requestWake_keepAlive]
      rfl
    · rw [hterm, State.raiseCarry_eq, State.keepAlive_made k hmode hfree hallowed hready]
      exact ⟨rfl, rfl⟩
    · rw [hterm, State.raiseCarry_eq, State.keepAlive_barred k hbarred]
      exact ⟨rfl, rfl⟩
    · apply State.eq_of_blocks <;> simp [State.keepAliveMoved]

end Sys2Proof.Machine

end

section
/-! ## Offering and beginning frames -/

namespace Sys2Proof.Machine

/-! ### Offering and beginning frames -/

section
variable {s : State}

theorem State.mayOffer_iff (s : State) : s.mayOffer = true ↔ s.supply.oscillator = .stable ∧ s.round.participation = .member
    ∧ s.line.confinement ≠ .offline ∧ s.line.stuck = false ∧ s.line.extraWait = .none
    ∧ ((∃ o q, s.line.queue = .opening o :: q) ∨ ((∃ n q, s.line.queue = .notice n :: q) ∧ s.clock < s.round.t0 + 600 * 3200)) := by
  have hmoment : s.roundMoment 600 = s.round.t0 + 600 * 3200 := rfl
  unfold State.mayOffer
  rw [hmoment]
  cases hq : s.line.queue with
  | nil => simp
  | cons f q => cases f <;> simp [State.oscStable, and_assoc]

theorem State.offer_of_not_idle (h : s.line.phase ≠ .idle ∨ s.mayOffer = false) : s.offer = s := by
  refine if_neg fun hoffer => ?_
  rcases h with h | h
  · exact h hoffer.1
  · exact absurd hoffer.2 (by simp [h])

theorem State.edgeBegins_eq (s : State) : s.edgeBegins = { s with line := { s.line with
    phase := .frame, role := if s.mayOffer then .transmitter else .receiver
    driver := if s.mayOffer then .dominant else .recessive, bitPos := some {}, seen := .dominant
    gapBits := 0, frameStart := s.clock, rxBits := [], extraWait := .none } } := by
  apply State.eq_of_blocks <;> simp

/-- An edge begins a frame in IDLE and in the GAP (R75). -/
theorem exec_startBitEdge (hrun : s.supply.power = .running) (hosc : s.supply.oscillator = .stable)
    (hphase : s.line.phase = .idle ∨ s.line.phase = .gap) : exec .startBitEdge s = .next s.edgeBegins.askSleep := by
  rw [exec, execStartBitEdge, whenRunning_of_running _ hrun, if_pos (by simp [State.oscStable, hosc])]
  rcases hphase with h | h <;> rw [h]

/-- What an edge does in an error delimiter, by the recessive bits sampled of it (R75, R99). -/
theorem exec_startBitEdge_of_error (hrun : s.supply.power = .running) (hosc : s.supply.oscillator = .stable) (hphase : s.line.phase = .error) :
    exec .startBitEdge s = .next (if 3 ≤ s.line.delimiterBits then s.delimiterEnds.edgeBegins else s).askSleep := by
  rw [exec, execStartBitEdge, whenRunning_of_running _ hrun, if_pos (by simp [State.oscStable, hosc]), hphase]

/-- The end of the delimiter leaves the GAP (R99). -/
theorem State.delimiterEnds_phase (s : State) : s.delimiterEnds.line.phase = .gap := by
  have hgap : s.line.afterDelimiter.phase = .gap := by rw [LineState.afterDelimiter_eq]
  rw [State.delimiterEnds_eq, State.frameEnded_line_eq _ (by simp [hgap])]
  exact hgap

/-- The end of the delimiter does not ask for the error that it ends. -/
theorem State.delimiterEnds_error (s : State) (e : Option ErrorInHand) :
    State.delimiterEnds { s with line := { s.line with error := e } } = s.delimiterEnds := by
  rw [State.delimiterEnds_eq, State.delimiterEnds_eq, LineState.afterDelimiter_eq, LineState.afterDelimiter_eq]

theorem State.delimiterEnds_of_idle_round (hdue : s.closeDue = false) (hexpired : s.timerExpired = false) :
    s.delimiterEnds = { s with line := s.line.afterDelimiter } := by
  have hdue' : State.closeDue { s with line := s.line.afterDelimiter } = false := hdue
  have hexpired' : State.timerExpired { s with line := s.line.afterDelimiter } = false := hexpired
  rw [State.delimiterEnds_eq, State.frameEnded_eq, hexpired', State.closedIfDue, hdue']
  rfl

/-- Outside IDLE a sleep request loses its frame (R164). -/
theorem State.askSleep_of_busy (h : s.line.phase ≠ .idle) :
    s.askSleep = if s.supply.sleepRequest then { s with supply := { s.supply with sleepFrame := .none } } else s := by
  have hbarred : s.sleepAllowed = false := by simp [State.sleepAllowed, h]
  cases hreq : s.supply.sleepRequest with
  | true => rw [State.askSleep_of_barred hreq hbarred, if_pos rfl]
  | false => rw [State.askSleep_of_no_request hreq, if_neg Bool.false_ne_true]

/-- A frame begun by an edge takes the sleep frame away, whether or not the command before it did (R164). -/
theorem State.edgeBegins_askSleep (h : s.line.phase ≠ .idle) : s.askSleep.edgeBegins.askSleep = s.edgeBegins.askSleep := by
  rw [State.askSleep_of_busy h]
  split
  next hreq =>
    have hframe (t : State) : t.edgeBegins.line.phase ≠ .idle := by simp
    have hkeeps (t : State) : t.edgeBegins.supply = t.supply := by simp
    rw [State.askSleep_of_busy (hframe _), State.askSleep_of_busy (hframe _), hkeeps, hkeeps, if_pos hreq, if_pos hreq, State.edgeBegins_eq,
      State.edgeBegins_eq]
    rfl
  next => rfl

end

/-- Settles O30. -/
theorem idleAndEdgeBeginFrames : Obligations.IdleAndEdgeBeginFrames := by
  refine ⟨State.mayOffer_iff, fun s hrun hosc hphase => ?_, fun s hrun hosc hpassed => ?_, fun s hrun hosc hphase => ⟨fun hfew => ?_, fun hmany e u herror hend => ?_, fun hmany hdue hexpired => ⟨fun hfailed => ?_, fun hfailed => ?_⟩⟩,
    fun s e hrun hwait hexpired => ?_⟩
  · rw [exec_startBitEdge hrun hosc hphase, State.edgeBegins_eq]
  · intro idle
    have hexec : exec .lineIdle s = .next idle.offer.askSleep := by
      rw [exec, execLineIdle, whenRunning_of_running _ hrun, if_pos (by simpa [State.oscStable, hosc] using hpassed)]
      rfl
    refine ⟨fun hmay => ?_, fun hmay => ?_⟩
    · rw [hexec, State.offer_of_not_idle (.inr hmay)]
    · rw [hexec, State.offer_of_idle rfl hmay]
      rfl
  · rw [exec_startBitEdge_of_error hrun hosc hphase, if_neg (by omega)]
  · have hend' : exec .errorDelimiterEnd { s with line := { s.line with error := some { e with progress := .delimiter 8 } } }
        = .next s.delimiterEnds.askSleep := by
      rw [← State.delimiterEnds_error s (some { e with progress := .delimiter 8 }), exec, execErrorDelimiterEnd, whenRunning_of_running, if_pos]
      · simp [hphase, LineState.delimiterBits]
      · exact hrun
    obtain rfl : s.delimiterEnds.askSleep = u := Host.Outcome.next.inj (hend'.symm.trans hend)
    have hgap : s.delimiterEnds.askSleep.line.phase = .gap := by simpa using s.delimiterEnds_phase
    have hstable : s.delimiterEnds.askSleep.supply.oscillator = .stable := by
      rw [State.askSleep_supply]
      simpa using hosc
    have hpower : s.delimiterEnds.askSleep.supply.power = .running := by
      rw [State.askSleep_supply]
      simpa using hrun
    refine ⟨hgap, hstable, ?_⟩
    rw [exec_startBitEdge_of_error hrun hosc hphase, if_pos hmany, exec_startBitEdge hpower hstable (.inr hgap), State.edgeBegins_askSleep]
    simp [s.delimiterEnds_phase]
  · rw [exec_startBitEdge_of_error hrun hosc hphase, if_pos hmany, State.delimiterEnds_of_idle_round hdue hexpired, State.edgeBegins_eq]
    simp only [LineState.afterDelimiter_eq, if_neg (Nat.not_le.2 hfailed)]
    rfl
  · refine ⟨s.delimiterEnds.edgeBegins, ?_, ?_⟩
    · rw [exec_startBitEdge_of_error hrun hosc hphase, if_pos hmany]
    · rw [State.delimiterEnds_of_idle_round hdue hexpired, State.edgeBegins_eq]
      have hwaits : s.line.afterDelimiter.extraWait = s.line.extraWait := by rw [LineState.afterDelimiter_eq]
      have hbarred (hwait : s.line.extraWait ≠ .none) : State.mayOffer { s with line := s.line.afterDelimiter } = false := by
        simp [State.mayOffer, hwaits, hwait]
      refine ⟨rfl, ?_, rfl, ?_, fun hwait => ⟨by simp [hbarred hwait], by simp [hbarred hwait]⟩, rfl, rfl⟩
      · rw [LineState.afterDelimiter_eq]
        exact if_pos hfailed
      · rw [LineState.afterDelimiter_eq]
  · intro waited
    have hexec : exec .extraWaitExpiry s = .next waited.offer.askSleep := by
      rw [exec, execExtraWaitExpiry, whenRunning_of_running _ hrun, hwait]
      exact congrArg (Host.Outcome.next ∘ State.askSleep) (if_pos hexpired)
    refine ⟨fun hnot => ?_, fun hidle hmay => ?_⟩
    · rw [hexec, State.offer_of_not_idle hnot]
    · rw [hexec, State.offer_of_idle (s := waited) hidle hmay]
      rfl

end Sys2Proof.Machine

end

section
/-! ## Guards against a held line -/

namespace Sys2Proof.Machine

/-! ### A cycle within a quantum -/

theorem step_within_quantum {s : State} {b : BitPos} (hpending : s.pending = []) (hosc : s.supply.oscillator = .stable)
    (hbit : s.line.bitPos = some b) (hcycle : b.cycle < 9) :
    step s = .next { s.cycled with line := { s.cycled.line with bitPos := some { b with cycle := b.cycle + 1 } } } := by
  have htick : s.tick = { s.cycled with line := { s.cycled.line with bitPos := some { b with cycle := b.cycle + 1 } } } := by
    unfold State.tick
    dsimp only
    rw [if_pos (by simp [State.oscStable, hosc])]
    simp only [hbit]
    unfold State.lineCycle
    dsimp only
    rw [if_neg (by omega)]
    exact congrArg (fun t : State => { t with line := { t.line with bitPos := some { b with cycle := b.cycle + 1 } } })
      State.countDrive_holdDriver
  simp only [step, hpending, htick]

/-! ### Entry into OFFLINE -/

section
variable {s : State}

theorem confinementOf_offline (rx : Nat) {tx : Nat} (h : 160 ≤ tx) : confinementOf tx rx = .offline := by
  simp [confinementOf, h]

theorem State.readConfinement_blocks (s : State) : s.readConfinement = { s with
    line := s.readConfinement.line, batt := s.readConfinement.batt, term := s.readConfinement.term, test := s.readConfinement.test } := by
  apply State.eq_of_blocks <;> simp

/-- Entry into OFFLINE leaves no test in flight (R156). -/
theorem State.readConfinement_context (hon : s.line.confinement ≠ .offline) (hoff : confinementOf s.line.txErrors s.line.rxErrors = .offline) :
    s.readConfinement.test.context = none := by
  rw [State.readConfinement, if_neg hon, hoff]
  exact State.abortTest_context _ _

theorem LineState.reread_of_online {l : LineState} (hon : l.confinement ≠ .offline) (hoff : confinementOf l.txErrors l.rxErrors = .offline) :
    l.reread = l.wentOffline := by
  rw [LineState.reread, if_neg hon, hoff]

end

/-- A driver that has been dominant for too long, forced recessive and its count raised (R105). -/
def State.driveForced (s : State) : State :=
  { s with line := { s.line with driver := .recessive, driveTime := 0, txErrors := max s.line.txErrors 160 } }

/-- A stuck line's queue is empty, and its notices count as unsent (R90, R106). -/
theorem LineState.stuckLine_eq (l : LineState) : l.stuckLine = { l with
    stuck := true, driver := .recessive, driveTime := 0, queue := [], clearingRun := 0, recoveryBits := 0
    failed := l.stuckLine.failed, role := l.stuckLine.role
    unsent := min 255 (l.unsent + (l.queue.filter Frame.isNotice).length) } := by
  simp [LineState.stuckLine, LineState.clearQueue, LineState.dropTo, LineState.withQueue, sat255, ← noticeCount_eq, Nat.min_comm, noticeCount]

/-- The notices of an empty queue count nothing. -/
theorem LineState.dropNotices_of_nil {l : LineState} (hqueue : l.queue = []) (hrange : l.unsent ≤ 255) : l.dropNotices = l := by
  rw [LineState.dropNotices_eq]
  simp only [hqueue, List.filter_nil, List.length_nil, Nat.add_zero, if_true, Nat.min_eq_right hrange]
  rw [← hqueue]

/-- Settles O33. -/
theorem lineGuards : Obligations.LineGuards := by
  refine ⟨fun s b hpending hosc hbit hcycle hfault hmay => ?_, fun s hrun hdriver htime => ?_, fun s hrun hheld hclear => ?_,
    fun s hrun hstuck hclearing => ?_, fun s hrun hoff hruns => ?_⟩
  · have hnow : s.driverNow = .dominant := by simp [State.driverNow, hfault, hmay]
    refine ⟨_, step_within_quantum hpending hosc hbit hcycle, ?_⟩
    simp [State.cycled, hnow]
  · have hcount : 160 ≤ max s.line.txErrors 160 := Nat.le_max_right _ _
    have hexec : exec .dominantTimeout s = .next s.driveForced.readConfinement.askSleep := by
      rw [exec, execDominantTimeout, whenRunning_of_running _ hrun]
      exact congrArg (Host.Outcome.next ∘ State.askSleep) (if_pos (Bool.and_eq_true_iff.2 ⟨decide_eq_true hdriver, decide_eq_true htime⟩))
    have hcounts : confinementOf s.driveForced.line.txErrors s.driveForced.line.rxErrors = .offline := confinementOf_offline _ hcount
    refine ⟨_, hexec, ?_⟩
    by_cases hoff : s.line.confinement = .offline
    · have hkept : s.driveForced.readConfinement = s.driveForced := if_pos hoff
      rw [hkept]
      exact ⟨rfl, rfl, rfl, rfl, hoff, fun hon => absurd hoff hon, rfl⟩
    · have hline : s.driveForced.readConfinement.line = s.driveForced.line.wentOffline := by
        rw [State.readConfinement_line, LineState.reread_of_online (l := s.driveForced.line) hoff hcounts]
      have hblocks := s.driveForced.readConfinement_blocks
      have hcontext := State.readConfinement_context (s := s.driveForced) hoff hcounts
      refine ⟨by rw [hline]; rfl, by rw [hline]; rfl, by rw [hline]; rfl, by rw [hline]; rfl, by rw [hline]; rfl,
        fun _ => ⟨by rw [hline]; rfl, hcontext⟩, hblocks⟩
  · have hexec : exec .lineStuck s = .next s.getsStuck.askSleep := by
      rw [exec, execLineStuck, whenRunning_of_running _ hrun, if_pos (by simp [hheld, hclear])]
    have hline : s.getsStuck.line = s.line.stuckLine := by
      rw [State.getsStuck_eq, State.closedIfDue_line, LineState.dropNotices_of_nil (LineState.stuckLine_queue _), ite_self]
      rw [LineState.stuckLine_eq]
      exact Nat.min_le_left _ _
    refine ⟨_, hexec, ?_, ?_, ?_, ?_, ?_, ?_, ?_, ?_, fun hdue => ?_, fun hdue => ⟨?_, ?_⟩⟩
    iterate 8 · rw [hline, LineState.stuckLine_eq]
    · have hdue' : State.closeDue { s with line := s.line.stuckLine } = false := hdue
      rw [State.getsStuck_eq, State.closedIfDue, hdue']
      rfl
    · have hdue' : State.closeDue { s with line := s.line.stuckLine } = true := hdue
      rw [State.getsStuck_eq, State.closedIfDue_round, hdue']
      simp
    · apply State.eq_of_blocks <;> simp
  · rw [exec, execLineStuckClear, whenRunning_of_running _ hrun, if_pos (by simp [hstuck, hclearing])]
    exact ⟨_, rfl, rfl, rfl, rfl, rfl, rfl, rfl, rfl⟩
  · intro back
    have hexec : exec .returnFromOffline s = .next back.raiseCarry.offer.askSleep := by
      rw [exec, execReturnFromOffline, whenRunning_of_running _ hrun]
      exact congrArg (Host.Outcome.next ∘ State.askSleep) (if_pos (by simp [hoff, hruns]))
    have hmay : back.raiseCarry.mayOffer = back.mayOffer := by
      rw [State.raiseCarry_eq]
      rfl
    have hline : back.raiseCarry.line = back.line := by simp
    refine ⟨_, hexec, fun hnot => ?_, fun hidle hoffers => ?_, ?_⟩
    · rw [State.offer_of_not_idle, hline]
      rwa [hmay, hline]
    · rw [State.offer_of_idle (by rwa [hline]) (hmay.trans hoffers), State.beginFrame_line, hline]
      simp [back]
    · apply State.eq_of_blocks <;> simp [back]

end Sys2Proof.Machine

end

section
/-! ## Errors on the line -/

namespace Sys2Proof.Machine

/-! ### The transmitter's comparison, bit by bit (R73, R85, R92) -/

/-- A sampled bit that does not decide a transmitter's attempt: the bit sent, the acknowledge slot, or dominant sent in the arbitration field. -/
abbrev SentBit.Passes (w : SentBit) (b : Level) : Prop := w.level = b ∨ w.tag = .ack ∨ (w.tag = .arbitration ∧ w.level = .dominant)

theorem compareSent_cons (w : SentBit) (ws : List SentBit) (b : Level) (bs : List Level) : compareSent (w :: ws) (b :: bs) =
    if w.Passes b then compareSent ws bs else if w.tag = .arbitration then .lost else .error := by
  obtain ⟨tag, level⟩ := w
  rw [compareSent]
  by_cases hsame : level = b
  · simp [SentBit.Passes, hsame]
  · cases tag <;> cases level <;> simp [SentBit.Passes, hsame]

theorem compareSent_append (ws : List SentBit) (bits : List Level) (w : SentBit) (b : Level) (hgoing : compareSent ws bits = .going)
    (hnext : ws[bits.length]? = some w) : compareSent ws (bits ++ [b]) =
      if w.Passes b then (if ws.length = bits.length + 1 then .complete else .going)
      else if w.tag = .arbitration then .lost else .error := by
  induction bits generalizing ws with
  | nil =>
    obtain - | ⟨v, ws⟩ := ws
    · simp at hnext
    obtain rfl : v = w := by simpa using hnext
    rw [List.nil_append, compareSent_cons]
    cases ws <;> simp [compareSent]
  | cons x bits ih =>
    obtain - | ⟨v, ws⟩ := ws
    · simp at hnext
    rw [compareSent_cons] at hgoing
    by_cases hpass : v.Passes x
    · rw [if_pos hpass] at hgoing
      rw [List.cons_append, compareSent_cons, if_pos hpass, ih ws hgoing (by simpa using hnext)]
      simp
    · rw [if_neg hpass] at hgoing
      split at hgoing <;> simp at hgoing

/-- The errors that a station finds in the frame in progress (R92 to R95). -/
theorem LineState.errorSeen_iff (l : LineState) (k : ErrorKind) : l.errorSeen = some k ↔ l.phase = .frame
    ∧ ((l.role = .receiver ∧ (receive l.rxBits).fault = some k)
      ∨ (l.role = .transmitter ∧ k = .bit ∧ ∃ f q, l.queue = f :: q ∧ compareSent (sentBits f) l.rxBits = .error)) := by
  unfold LineState.errorSeen LineState.receiver LineState.sendVerdict LineState.sending
  cases hphase : l.phase <;> cases hrole : l.role <;> simp
  cases hq : l.queue <;> simp [compareSent, eq_comm]
  grind

/-! ### The receiver's runs (R81, R93) -/

/-- A receiver that has found no error, with the bits it has sampled. -/
structure Receiver.Sampling (r : Receiver) (bits : List Level) : Prop where
  /-- In the fixed tail the region is behind it. -/
  tail : r.inRegion = true → r.tail = 0
  ended : r.done = true → r.tail ≠ 0
  /-- The bits end with the run it counts, of the level it holds and no longer. -/
  run : r.tail = 0 → r.run ≤ 4 ∧ ∃ before, bits = before ++ List.replicate r.run r.last ∧ before.getLast? ≠ some r.last
      ∧ (r.run = 0 → before = [])

theorem receive_append (bits : List Level) (b : Level) : receive (bits ++ [b]) = (receive bits).step b := by
  simp [receive, List.foldl_append]

/-- A run that ends a list, no longer in it, with one more bit. -/
theorem run_append {bits before : List Level} {last b : Level} {run : Nat} (hbits : bits = before ++ List.replicate run last)
    (hlong : before.getLast? ≠ some last) (hstart : run = 0 → before = []) :
    ∃ before', bits ++ [b] = before' ++ List.replicate (if b = last then run + 1 else 1) b ∧ before'.getLast? ≠ some b := by
  by_cases hsame : b = last
  · subst hsame
    exact ⟨before, by rw [hbits, if_pos rfl, List.replicate_succ', List.append_assoc], hlong⟩
  · refine ⟨bits, by simp [hsame], ?_⟩
    cases run with
    | zero => simp [hbits, hstart rfl]
    | succ n => simpa [hbits, List.getLast?_append, List.getLast?_replicate] using Ne.symm hsame

/-- A run that ends a list, no longer in it, is the one that the list's last bits make. -/
theorem run_unique {bits before before' : List Level} {last b : Level} {run n : Nat} (hbits : bits = before ++ List.replicate run last)
    (hlong : before.getLast? ≠ some last) (hstart : run = 0 → before = []) (hn : 0 < n) (hbits' : bits = before' ++ List.replicate n b) :
    b = last ∧ n ≤ run := by
  obtain - | m := run
  · obtain - | k := n
    · omega
    · simp [hstart rfl] at hbits
      simp [hbits] at hbits'
  · have hlast : bits.getLast? = some last := by simp [hbits, List.getLast?_append, List.getLast?_replicate]
    have hlast' : bits.getLast? = some b := by
      have hne : n ≠ 0 := by omega
      simp [hbits', List.getLast?_append, List.getLast?_replicate, hne]
    obtain rfl : b = last := by simpa [hlast'] using hlast
    refine ⟨rfl, ?_⟩
    refine Classical.byContradiction fun hmore => ?_
    have hsplit : List.replicate n b = List.replicate (n - (m + 1)) b ++ List.replicate (m + 1) b := by
      rw [List.replicate_append_replicate]
      congr 1
      omega
    rw [hbits, hsplit, ← List.append_assoc] at hbits'
    have hne : n - (m + 1) ≠ 0 := by omega
    have hbefore := List.append_cancel_right hbits'
    exact hlong (by simp [hbefore, List.getLast?_append, List.getLast?_replicate, hne])

section
variable {r : Receiver} {b : Level}

theorem Receiver.inRegion_congr {r' : Receiver} (hcontent : r'.content = r.content) (hrun : r'.run = r.run) : r'.inRegion = r.inRegion := by
  simp [Receiver.inRegion, hcontent, hrun]

/-- A sampled bit of the fixed tail that shows no error (R94, R95). -/
theorem Receiver.tailBit_of_valid (hr : r.fault = none) (hvalid : (r.tailBit b).fault = none) :
    (r.tailBit b).tail = r.tail + 1 ∧ (r.tailBit b).content = r.content ∧ (r.tailBit b).run = r.run := by
  unfold Receiver.tailBit at hvalid ⊢
  (repeat' split) <;> simp_all

theorem Receiver.Sampling.step {bits : List Level} (h : r.Sampling bits) (hr : r.fault = none) (hvalid : (r.step b).fault = none) :
    (r.step b).Sampling (bits ++ [b]) := by
  obtain ⟨htail, hended, hruns⟩ := h
  cases hdone : r.done with
  | true =>
    have hsame : r.step b = r := by simp [Receiver.step, hdone]
    rw [hsame]
    exact ⟨htail, hended, fun hzero => absurd hzero (hended hdone)⟩
  | false =>
    cases hregion : r.inRegion with
    | true =>
      have hzero := htail hregion
      obtain ⟨hmost, before, hbits, hlong, hstart⟩ := hruns hzero
      obtain ⟨before', hbits', hlong'⟩ := run_append (b := b) hbits hlong hstart
      rw [Receiver.step_stuffed hr hdone hregion] at hvalid ⊢
      unfold Receiver.stuffed at hvalid ⊢
      by_cases hfour : r.run = 4
      · rw [if_pos hfour] at hvalid ⊢
        have hlast : b ≠ r.last := fun hlast => by simp [hlast] at hvalid
        rw [if_neg hlast] at hbits' ⊢
        exact ⟨fun _ => hzero, hended, fun _ => ⟨by simp, before', hbits', hlong', by simp⟩⟩
      · rw [if_neg hfour]
        refine ⟨fun _ => hzero, hended, fun _ => ⟨?_, before', hbits', hlong', fun hnone => ?_⟩⟩
        · dsimp only
          split <;> omega
        · dsimp only at hnone
          split at hnone <;> omega
    | false =>
      rw [Receiver.step_tailBit hr hdone hregion] at hvalid ⊢
      obtain ⟨hnext, hcontent, hrun⟩ := Receiver.tailBit_of_valid hr hvalid
      have hout : (r.tailBit b).inRegion = false := (Receiver.inRegion_congr hcontent hrun).trans hregion
      exact ⟨by simp [hout], by simp [hnext], by simp [hnext]⟩

end

/-- Bits are received one after another: induction at the end of the list. -/
theorem sampled_induction {P : List Level → Prop} (nil : P []) (sampled : ∀ bits b, P bits → P (bits ++ [b])) (bits : List Level) : P bits := by
  rw [← List.reverse_reverse bits]
  induction bits.reverse with
  | nil => exact nil
  | cons b later ih =>
    rw [List.reverse_cons]
    exact sampled _ b ih

theorem receive_sampling (bits : List Level) (h : (receive bits).fault = none) : (receive bits).Sampling bits := by
  induction bits using sampled_induction with
  | nil => exact ⟨fun _ => rfl, by simp [receive], fun _ => ⟨by simp [receive], [], rfl, by simp, fun _ => rfl⟩⟩
  | sampled bits b ih =>
    rw [receive_append] at h ⊢
    have hbefore : (receive bits).fault = none := by
      refine Classical.byContradiction fun hfault => ?_
      have hsame : (receive bits).step b = receive bits := by simp [Receiver.step, Option.isSome_iff_ne_none, hfault]
      exact hfault (hsame ▸ h)
    exact (ih hbefore).step hbefore h

/-- A bit in the stuffed region: an error exactly at a fifth equal bit (R93). -/
theorem receive_inRegion {bits : List Level} (b : Level) (hfault : (receive bits).fault = none) (hdone : (receive bits).done = false)
    (hregion : (receive bits).inRegion = true) : (receive bits).tail = 0
      ∧ ((receive (bits ++ [b])).fault = none ∨ (receive (bits ++ [b])).fault = some .stuff)
      ∧ ((receive (bits ++ [b])).fault = some .stuff ↔ ∃ before, bits ++ [b] = before ++ List.replicate 5 b) := by
  obtain ⟨htail, -, hruns⟩ := receive_sampling bits hfault
  obtain ⟨hmost, before, hbits, hlong, hstart⟩ := hruns (htail hregion)
  have hfive : (∃ before, bits ++ [b] = before ++ List.replicate 5 b) ↔ (receive bits).run = 4 ∧ b = (receive bits).last := by
    constructor
    · rintro ⟨before', hbits'⟩
      rw [List.replicate_succ', ← List.append_assoc] at hbits'
      obtain ⟨hsame, hfour⟩ := run_unique hbits hlong hstart (n := 4) (by omega) (List.append_cancel_right hbits')
      exact ⟨by omega, hsame⟩
    · rintro ⟨hfour, rfl⟩
      refine ⟨before, ?_⟩
      rw [List.replicate_succ', ← List.append_assoc, ← hfour]
      exact congrArg (· ++ [_]) hbits
  rw [receive_append, Receiver.step_stuffed hfault hdone hregion, hfive]
  refine ⟨htail hregion, ?_⟩
  unfold Receiver.stuffed
  by_cases hfour : (receive bits).run = 4 <;> by_cases hlast : b = (receive bits).last <;> simp [hfour, hlast, hfault]

/-- A bit of the fixed tail (R94, R95). -/
theorem receive_tail {bits : List Level} (b : Level) (hfault : (receive bits).fault = none) (hdone : (receive bits).done = false)
    (hregion : (receive bits).inRegion = false) : (receive (bits ++ [b])) = (receive bits).tailBit b := by
  rw [receive_append, Receiver.step_tailBit hfault hdone hregion]

theorem Receiver.classFault_iff (r : Receiver) : r.classFault = true
    ↔ regionLength r.content = 30 ∧ fieldValue ((r.content.drop 2).take 3) ≠ 0 := by
  unfold Receiver.classFault
  rw [Bool.and_eq_true, decide_eq_true_eq, decide_eq_true_eq]

theorem Receiver.checkOk_iff (r : Receiver) : r.checkOk = true ↔
    r.content.drop (regionLength r.content - 10) = checkBits ((r.content.take (regionLength r.content - 10)).drop 1) := by
  unfold Receiver.checkOk Receiver.checked
  exact decide_eq_true_iff

/-- The errors of the fixed tail, by the bits of it sampled (R94, R95). -/
theorem Receiver.tailBit_fault {r : Receiver} (b : Level) (hr : r.fault = none) :
    (r.tail = 0 → (r.tailBit b).fault = if b = .dominant then some .form else none)
      ∧ (r.tail = 1 → (r.tailBit b).fault = none)
      ∧ (3 ≤ r.tail → (r.tailBit b).fault = if b = .dominant then some .form else none)
      ∧ (r.tail = 2 → (r.tailBit b).fault = if b = .dominant then some .form
          else if r.classFault then some .form else if r.checkOk then none else some .check) := by
  unfold Receiver.tailBit
  refine ⟨fun h => ?_, fun h => ?_, fun h => ?_, fun h => ?_⟩
  · rw [h]
    cases b <;> simp [hr]
  · rw [h]
    simp [hr]
  · obtain ⟨n, hn⟩ := Nat.exists_eq_add_of_le' h
    rw [hn]
    cases b <;> simp [hr]
  · rw [h]
    cases b <;> cases r.classFault <;> cases r.checkOk <;> simp [hr]

/-! ### The counts read again (R100 to R103) -/

section
variable (l : LineState)

theorem LineState.reread_frame : l.reread.phase = l.phase ∧ l.reread.rxBits = l.rxBits ∧ l.reread.txErrors = l.txErrors
    ∧ l.reread.rxErrors = l.rxErrors ∧ l.reread.stuck = l.stuck ∧ (l.driver = .recessive → l.reread.driver = .recessive)
    ∧ l.reread.confinement = if l.confinement = .offline then .offline else confinementOf l.txErrors l.rxErrors := by
  unfold LineState.reread LineState.wentOffline LineState.clearQueue LineState.dropTo LineState.withQueue
  split
  next hoff => simp [hoff]
  next hon =>
    split
    next hnew => simp [hnew]
    next hnew => simp [hnew]
    next hnew => simp [hnew]

/-- A station that the counts leave on the line keeps its queue and its failed attempts (R102). -/
theorem LineState.reread_online (hon : l.reread.confinement ≠ .offline) : l.reread.queue = l.queue ∧ l.reread.failed = l.failed
    ∧ l.reread.extraWait = if l.reread.confinement = .active ∧ l.confinement = .quiet then .none else l.extraWait := by
  unfold LineState.reread at hon ⊢
  split at hon
  next hoff => exact absurd hoff hon
  next hon' =>
    rw [if_neg hon']
    split at hon <;> simp_all [LineState.wentOffline]

theorem LineState.reread_offline (hon : l.confinement ≠ .offline) (hoff : l.reread.confinement = .offline) :
    l.reread.queue = [] ∧ l.reread.failed = 0 ∧ l.reread.extraWait = .none := by
  obtain ⟨-, -, -, -, -, -, hconf⟩ := l.reread_frame
  rw [if_neg hon] at hconf
  rw [LineState.reread_of_online hon (hconf.symm.trans hoff)]
  exact ⟨rfl, rfl, rfl⟩

end

/-- The line controller as it takes an error, before the confinement state is read (R96, R100). -/
def LineState.struck (l : LineState) : LineState :=
  LineState.countedError { l with phase := .error, driver := .recessive, rxBits := [], gapBits := 0 } l.role

theorem LineState.errored_eq (l : LineState) : l.errored = l.struck.reread := rfl

theorem LineState.struck_eq (l : LineState) : l.struck = { l with
    phase := .error, driver := .recessive, rxBits := [], gapBits := 0
    txErrors := if l.role = .transmitter then min 255 (l.txErrors + 8) else l.txErrors
    rxErrors := if l.role = .receiver then min 255 (l.rxErrors + 1) else l.rxErrors } := by
  unfold LineState.struck LineState.countedError
  cases l.role <;> simp [sat255, Nat.min_comm]

theorem LineState.errored_frame (l : LineState) : l.errored.phase = .error ∧ l.errored.rxBits = [] ∧ l.errored.driver = .recessive
    ∧ l.errored.txErrors = (if l.role = .transmitter then min 255 (l.txErrors + 8) else l.txErrors)
    ∧ l.errored.rxErrors = (if l.role = .receiver then min 255 (l.rxErrors + 1) else l.rxErrors) ∧ l.errored.stuck = l.stuck
    ∧ l.errored.confinement = if l.confinement = .offline then .offline else confinementOf l.errored.txErrors l.errored.rxErrors := by
  obtain ⟨hphase, hbits, htx, hrx, hstuck, hdriver, hconf⟩ := l.struck.reread_frame
  rw [← LineState.errored_eq] at hphase hbits htx hrx hstuck hdriver hconf
  rw [← htx, ← hrx] at hconf
  rw [LineState.struck_eq] at hphase hbits htx hrx hstuck hdriver hconf
  exact ⟨hphase, hbits, hdriver rfl, htx, hrx, hstuck, hconf⟩

theorem LineState.errored_online (l : LineState) (hon : l.errored.confinement ≠ .offline) : l.errored.queue = l.queue
    ∧ l.errored.failed = l.failed
    ∧ l.errored.extraWait = if l.errored.confinement = .active ∧ l.confinement = .quiet then .none else l.extraWait := by
  obtain ⟨hqueue, hfailed, hwait⟩ := l.struck.reread_online hon
  rw [← LineState.errored_eq, LineState.struck_eq] at hqueue hfailed hwait
  exact ⟨hqueue, hfailed, hwait⟩

theorem LineState.errored_offline (l : LineState) (hon : l.confinement ≠ .offline) (hoff : l.errored.confinement = .offline) :
    l.errored.queue = [] ∧ l.errored.failed = 0 ∧ l.errored.extraWait = .none :=
  l.struck.reread_offline (by rwa [LineState.struck_eq]) hoff

/-- The flag is active exactly in ACTIVE, outside LISTEN and with the line not stuck (R97). -/
theorem State.errorCounted_flag (s : State) : s.errorCounted.flagChosen = .active
    ↔ s.line.errored.confinement = .active ∧ s.round.participation ≠ .listen ∧ s.line.stuck = false := by
  obtain ⟨-, -, -, -, -, hstuck, -⟩ := s.line.errored_frame
  have hround : s.errorCounted.round = s.round := by simp [State.errorCounted, State.countError]
  have hmay := s.errorCounted.mayDrive_iff
  rw [State.errorCounted_line, hstuck, hround] at hmay
  have hflag : s.errorCounted.flagChosen = .active ↔ s.line.errored.confinement = .active ∧ s.errorCounted.mayDrive = true := by
    unfold State.flagChosen
    rw [State.errorCounted_line]
    split <;> simp_all
  rw [hflag, hmay]
  exact ⟨fun ⟨hactive, _, hrest⟩ => ⟨hactive, hrest⟩, fun ⟨hactive, hrest⟩ => ⟨hactive, by simp [hactive], hrest⟩⟩

/-- An error that takes the station OFFLINE leaves no test in flight (R156). -/
theorem State.errorCounted_context (s : State) (hon : s.line.confinement ≠ .offline) (hoff : s.line.errored.confinement = .offline) :
    s.errorCounted.test.context = none := by
  obtain ⟨-, -, -, -, -, -, hconf⟩ := s.line.struck.reread_frame
  rw [← LineState.errored_eq, hoff, if_neg (by rwa [LineState.struck_eq])] at hconf
  exact State.readConfinement_context (s := { s with line := s.line.struck }) (by rwa [LineState.struck_eq]) hconf.symm

/-- Settles O31. -/
theorem frameErrorCountsAndFlags : Obligations.FrameErrorCountsAndFlags := by
  refine ⟨LineState.errorSeen_iff, compareSent_append, fun bits b => ?_, fun s k hrun hseen => ?_, fun s hrun hlost => ?_⟩
  · intro r r' fixed region hfault hdone
    refine ⟨fun hregion => receive_inRegion b hfault hdone hregion, fun hregion => ?_⟩
    have hr' : r' = r.tailBit b := receive_tail b hfault hdone hregion
    obtain ⟨hzero, hone, hlate, htwo⟩ := Receiver.tailBit_fault b hfault
    rw [hr']
    refine ⟨fun hvalid => (Receiver.tailBit_of_valid hfault hvalid).1, hzero, hone, hlate, fun h => (htwo h).trans ?_⟩
    simp only [Receiver.classFault_iff, Receiver.checkOk_iff, ite_not]
    rfl
  · have hexec : exec .frameError s = .next (s.takeError k).askSleep := by
      rw [exec, execFrameError, whenRunning_of_running _ hrun, hseen]
    have hline := s.takeError_line k
    obtain ⟨hphase, hbits, hdriver, htx, hrx, hstuck, hconf⟩ := s.line.errored_frame
    refine ⟨_, hexec, ?_⟩
    rw [hline]
    refine ⟨hphase, hdriver, hbits, htx, hrx, hconf, ?_, fun hquiet => ?_, fun hactive => ?_, fun hon hoff => ?_, fun hon => ?_, fun hon hoff => ?_, ?_⟩
    · exact ⟨_, rfl, rfl, rfl, rfl, s.errorCounted_flag⟩
    · change s.line.errored.confinement = .quiet at hquiet
      obtain ⟨-, hfailed, hwait⟩ := s.line.errored_online (by simp [hquiet])
      dsimp only
      rw [hfailed, hwait, hquiet]
      simp
    · change s.line.errored.confinement = .active at hactive
      obtain ⟨-, hfailed, hwait⟩ := s.line.errored_online (by simp [hactive])
      dsimp only
      rw [hfailed, hwait, hactive]
      simp
    · change s.line.errored.confinement = .offline at hoff
      obtain ⟨-, hfailed, hwait⟩ := s.line.errored_offline hon hoff
      dsimp only
      rw [hfailed, hwait, hoff]
      simp
    · exact (s.line.errored_online hon).1
    · exact ⟨(s.line.errored_offline hon hoff).1, s.errorCounted_context hon hoff⟩
    · rw [← hline]
      apply State.eq_of_blocks <;> simp
  · rw [exec, execLoseArbitration, whenRunning_of_running _ hrun, if_pos hlost]

end Sys2Proof.Machine

end

section
/-! ## The reference lost, sleep and wake -/

namespace Sys2Proof.Machine

/-! ### The reference lost (R16) -/

/-- An answer of the terminal interface to a feed grant leaves the test in flight alone (R50). -/
@[simp] theorem State.grantSeen_context (s : State) (n : Nat) : (s.grantSeen n).test.context = s.test.context := by
  unfold State.grantSeen State.terminalReacts
  (repeat' split) <;> simp

theorem State.clearStanding_context (s : State) : s.clearStanding.test.context = none := by
  unfold State.clearStanding
  rw [State.grantSeen_context]
  exact State.abortTest_context _ _

theorem State.clearStanding_supply (s : State) :
    s.clearStanding.supply = { s.supply with sleepRequest := false, sleepFrame := .none } := by
  simp [State.clearStanding, State.clearSleepRequest]

/-- A request for a status frame has one begun or pending (R167). -/
theorem State.requestStatus_asks (s : State) :
    s.requestStatus.status.frame.isSome = true ∨ s.requestStatus.status.pending = true := by
  unfold State.requestStatus
  split
  · exact .inl rfl
  · exact .inr rfl

/-- A request for a status frame leaves the sleep request as it is. -/
@[simp] theorem State.requestStatus_sleepRequest (s : State) : s.requestStatus.supply.sleepRequest = s.supply.sleepRequest := by
  unfold State.requestStatus
  split <;> rfl

/-- Settles O27. -/
theorem roundAgeLimitClears : Obligations.RoundAgeLimitClears := by
  intro s hrun href hjoined hage
  have hrequest : s.losesReference.supply.sleepRequest = false := by
    simp [State.losesReference, State.clearStanding_supply]
  have hexec : exec .roundAgeLimit s = .next s.losesReference := by
    rw [exec, execRoundAgeLimit, whenRunning_of_running _ hrun, if_pos (by simp [href, hjoined, hage]),
      State.askSleep_of_no_request hrequest]
  refine ⟨_, hexec, ?_⟩
  have hround : s.losesReference.round = { s.round.dropPoints with referenced := false } := by
    simp [State.losesReference, RoundState.dropPoints]
  have hshare : s.losesReference.share = { s.share with feedGrant := 0, chargeGrant := 0 } := by simp [State.losesReference]
  have hdemand : s.losesReference.demand = { s.demand with claimsOpen := false } := by simp [State.losesReference]
  have htest : s.losesReference.test.context = none := by simp [State.losesReference, State.clearStanding_context]
  refine ⟨by rw [hround], by rw [hshare], by rw [hshare], by rw [hround]; rfl, by rw [hround]; rfl, by rw [hround]; rfl,
    by rw [hround]; rfl, by rw [hdemand], htest, hrequest, State.requestStatus_asks _, ?_⟩
  apply State.eq_of_blocks <;> simp [State.losesReference]

/-! ### Waking (R165) -/

/-- The conditions of sleep (R164). -/
theorem State.sleepAllowed_iff (s : State) : s.sleepAllowed = true ↔ s.supply.mains = .present ∧ s.round.tempo = .slow
    ∧ s.round.participation = .member ∧ s.round.referenced = true ∧ s.line.phase = .idle ∧ s.line.queue = [] ∧ s.term.mode = .active
    ∧ s.test.context = none ∧ s.clock < s.leadTime := by
  simp [State.sleepAllowed, State.testInFlight, and_assoc]

/-- Under its conditions the repeat timer runs on, or starts for 1,000 ms, and stops where they cease (R167). -/
theorem State.settleRepeat_eq (s : State) : s.settleRepeat = { s with status := { s.status with
    repeatTimer := if s.repeatRuns then some (s.status.repeatTimer.getD (s.clock + ms 1000)) else none } } := by
  unfold State.settleRepeat
  split
  · cases htimer : s.status.repeatTimer with
    | none => simp
    | some e =>
      simp only [Option.isSome_some, if_true, Option.getD_some]
      rw [← htimer]
  · rfl

/-- A sleeping part awakes (R165). -/
theorem State.wakeUp_of_asleep {s : State} (h : s.supply.asleep = true) : s.wakeUp = { s with
    supply := { s.supply with
      asleep := false, sleepRequest := false, sleepFrame := .none, oscillator := .starting s.clock, wokeAt := some s.clock }
    line := s.line.woken
    batt := { s.batt with window := [], evalCount := 0 }
    status := { s.status with
      repeatTimer :=
        if s.batt.band ≠ .unrated ∧ (s.round.participation = .listen ∨ s.round.referenced = false) then
          some (s.status.repeatTimer.getD (s.clock + ms 1000))
        else none } } := by
  rw [State.wakeUp, if_pos h, State.settleRepeat_eq]
  simp only [State.repeatRuns_iff, true_and]
  rfl

theorem State.leadTime_slow {s : State} (h : s.round.tempo = .slow) : s.leadTime = s.round.t0 + (30000 - 20) * 3200 := by
  rw [State.leadTime, h]
  rfl

/-- A sleep request with its conditions and no sleep frame asked for asks for one, begun at once with a free reporter (R164, R167). -/
theorem State.askSleep_of_ready {s : State} (hrequest : s.supply.sleepRequest = true) (hallowed : s.sleepAllowed = true)
    (hframe : s.supply.sleepFrame = .none) :
    s.askSleep = State.requestStatus { s with supply := { s.supply with sleepFrame := .waiting } } := by
  rw [State.askSleep, if_pos hrequest, if_pos hallowed, hframe]

/-- Settles O17. -/
theorem sleepAndWake : Obligations.SleepAndWake := by
  refine ⟨fun s hrun htimer hlead hawake => ?_, fun s hrun hasleep => ⟨fun htimer hlead => ?_, ?_⟩, fun s hrun hawake => ⟨fun hwoke => ?_, fun hwoke => ?_⟩, fun s => ?_⟩
  · rw [exec, execRoundTimerLead, whenRunning_of_running _ hrun, if_pos (by simp [htimer, hlead]), State.wakeUp_of_awake hawake]
    exact congrArg Host.Outcome.next (State.askSleep_of_no_request rfl)
  · rw [exec, execRoundTimerLead, whenRunning_of_running _ hrun, if_pos (by simp [htimer, hlead]), State.wakeUp_of_asleep hasleep]
    exact congrArg Host.Outcome.next (State.askSleep_of_no_request rfl)
  · rw [exec, execLineEdgeWake, whenRunning_of_running _ hrun, if_pos hasleep, State.wakeUp_of_asleep hasleep]
    exact congrArg Host.Outcome.next (State.askSleep_of_no_request rfl)
  · rw [exec, execLineEdgeWake, whenRunning_of_running _ hrun, if_neg (by simp [hawake]), if_pos hwoke]
  · rw [exec, execLineEdgeWake, whenRunning_of_running _ hrun, if_neg (by simp [hawake]), if_neg hwoke]
  · intro allowed
    have hallowed : s.sleepAllowed = true ↔ allowed := by
      rw [State.sleepAllowed_iff]
      constructor
      · rintro ⟨hmains, htempo, hmember, href, hidle, hqueue, hactive, htest, htime⟩
        exact ⟨hmains, htempo, hmember, href, hidle, hqueue, hactive, htest, State.leadTime_slow htempo ▸ htime⟩
      · rintro ⟨hmains, htempo, hmember, href, hidle, hqueue, hactive, htest, htime⟩
        exact ⟨hmains, htempo, hmember, href, hidle, hqueue, hactive, htest, (State.leadTime_slow htempo).symm ▸ htime⟩
    have hbarred : ¬ allowed → s.sleepAllowed = false := fun h => by simpa using fun ha => h (hallowed.1 ha)
    refine ⟨fun hrun hrequest hsent hfree hawake h => ?_, fun hrun hnot => ?_, State.askSleep_of_no_request,
      fun hrequest h => State.askSleep_of_barred hrequest (hbarred h), fun h hframe => State.askSleep_of_asked (hallowed.2 h) hframe,
      fun hrequest h hframe => ⟨fun hfree hstable => ?_, fun hbusy => ?_⟩⟩
    · have hexec : exec .enterSleep s = .next s.fallAsleep := by
        rw [exec, execEnterSleep, whenRunning_of_running _ hrun, if_pos (by simp [hrequest, hsent, hfree, hawake, hallowed.2 h]),
          State.askSleep_of_no_request rfl]
      refine ⟨_, hexec, rfl, rfl, rfl, by simp [State.fallAsleep], rfl, (State.gatesOff_conv s).2.2.2.1,
        (State.gatesOff_conv s).2.2.2.2, by simp [State.fallAsleep], by simp [State.fallAsleep], ?_⟩
      · apply State.eq_of_blocks <;> simp [State.fallAsleep]
    · rw [exec, execEnterSleep, whenRunning_of_running _ hrun, if_neg]
      simp only [Bool.and_eq_true, decide_eq_true_eq, Option.isNone_iff_eq_none, Bool.not_eq_true', and_assoc]
      rintro ⟨hrequest, hsent, hfree, hawake, hall⟩
      exact hnot ⟨hrequest, hsent, hfree, hawake, hallowed.1 hall⟩
    · rw [State.askSleep_of_ready hrequest (hallowed.2 h) hframe, State.requestStatus, if_pos (by simp [hfree, hstable, State.oscStable])]
      rfl
    · rw [State.askSleep_of_ready hrequest (hallowed.2 h) hframe, State.requestStatus, if_neg (by simp [State.oscStable]; grind)]

end Sys2Proof.Machine

end

section
/-! ## The terminal and the band evaluation -/

namespace Sys2Proof.Machine

/-! ### The tests of an outage (R144, R145) -/

/-- The feed grant does not cover what the terminal draws at CUTOFF (R145). -/
def State.CutoffNow (s : State) : Prop :=
  s.supply.mains = .absent ∧ s.batt.band = .cutoff ∧ ((s.term.mode = .hold ∧ s.share.feedGrant < s.holdDraw)
    ∨ (s.term.mode = .booting ∧ s.share.feedGrant < s.bootDraw) ∨ (s.term.mode = .active ∧ s.share.feedGrant < s.activeDraw))

/-- The feed grant does not cover an idle terminal at RESERVE (R144). -/
def State.ForcedNow (s : State) : Prop :=
  s.supply.mains = .absent ∧ s.batt.band = .reserve ∧ s.term.mode = .active ∧ (s.term.demand = .idle ∨ s.term.demand = .wanted)
    ∧ s.share.feedGrant < s.activeDraw

/-- A boot draws more than the terminal that is up, and that more than one held (R59). -/
theorem State.draws_lt (s : State) : s.holdDraw < s.activeDraw ∧ s.activeDraw < s.bootDraw := by
  have hlt := s.profile_lt
  unfold State.bootDraw State.activeDraw State.holdDraw
  generalize s.profile = p at hlt ⊢
  revert p
  decide

theorem State.cutoffHolds_iff (s : State) : s.cutoffHolds = true ↔ s.CutoffNow := by
  unfold State.cutoffHolds State.CutoffNow State.stateDraw State.inOutage
  cases s.term.mode <;> simp [and_assoc]

section
variable {s : State}

theorem State.powerTests_of_cutoff (h : s.CutoffNow) : s.powerTests = { s with
    term := { s.term with mode := .off, offReason := .cutoff, bootTimer := none, idleTimer := none, retryCount := 0, wakeMark := false }
    test := { s.test with wakeCheck := if s.term.wakeMark then none else s.test.wakeCheck } } := by
  have hoff : s.cutoffOff = { s with
      term := { s.term with mode := .off, offReason := .cutoff, bootTimer := none, idleTimer := none, retryCount := 0, wakeMark := false }
      test := { s.test with wakeCheck := if s.term.wakeMark then none else s.test.wakeCheck } } := by
    rw [State.cutoffOff, if_pos (s.cutoffHolds_iff.2 h)]
    cases s.term.wakeMark <;> rfl
  rw [State.powerTests, hoff, State.forcedHold, if_neg (by simp)]

theorem State.cutoffOff_of_not (h : ¬ s.CutoffNow) : s.cutoffOff = s :=
  if_neg (by rwa [s.cutoffHolds_iff])

theorem State.powerTests_of_forced (h : s.ForcedNow) : s.powerTests = s.enterHold := by
  obtain ⟨hmains, hband, hmode, hdemand, hgrant⟩ := h
  rw [State.powerTests, State.cutoffOff_of_not (by simp [State.CutoffNow, hband]), State.forcedHold, if_pos]
  simp [State.inOutage, hmains, hband, hmode, hdemand, hgrant]

theorem State.powerTests_of_neither (hcutoff : ¬ s.CutoffNow) (hforced : ¬ s.ForcedNow) : s.powerTests = s := by
  rw [State.powerTests, State.cutoffOff_of_not hcutoff, State.forcedHold, if_neg]
  simp only [State.inOutage, Bool.and_eq_true, Bool.or_eq_true, decide_eq_true_eq]
  rintro ⟨⟨⟨⟨hmains, hmode⟩, hband⟩, hdemand⟩, hgrant⟩
  exact hforced ⟨hmains, hband, hmode, hdemand, hgrant⟩

/-- A terminal that is cut off finds no gating at CUTOFF: a boot draws more than any other state (R139, R145). -/
theorem State.CutoffNow.not_wakeGate (h : s.CutoffNow) : ¬ s.WakeGate := by
  obtain ⟨hmains, hband, hdraw⟩ := h
  obtain ⟨hhold, hactive⟩ := s.draws_lt
  simp only [State.WakeGate, hmains, hband]
  have hshort : s.share.feedGrant < s.bootDraw := by
    rcases hdraw with ⟨-, h⟩ | ⟨-, h⟩ | ⟨-, h⟩ <;> omega
  simp
  exact hshort

/-- What the terminal interface does where the feed grant or the band takes it off (R139, R145). -/
theorem State.terminalReacts_of_cutoff (h : s.CutoffNow) : s.terminalReacts = { s with
    term := { s.term with mode := .off, offReason := .cutoff, bootTimer := none, idleTimer := none, retryCount := 0, wakeMark := false }
    test := { s.test with wakeCheck := if s.term.wakeMark then none else s.test.wakeCheck } } := by
  have hacting : s.acting = true := by simp [State.acting, h.2.1]
  rw [State.terminalReacts, if_pos hacting, State.powerTests_of_cutoff h]
  exact State.regateWake_of_barred (.inr h.not_wakeGate)

/-- What the terminal interface does where it is forced to hold, with no wake pending (R144). -/
theorem State.terminalReacts_of_forced (h : s.ForcedNow) (hnone : s.term.wakePending = false) : s.terminalReacts = s.enterHold := by
  have hacting : s.acting = true := by simp [State.acting, h.2.1]
  rw [State.terminalReacts, if_pos hacting, State.powerTests_of_forced h, State.regateWake_of_none]
  exact hnone

/-- The terminal interface makes a pending wake whose gating holds (R139). -/
theorem State.terminalReacts_of_gate (hpending : s.term.wakePending = true) (hband : s.batt.band ≠ .unrated)
    (hmode : s.term.mode = .hold ∨ s.term.mode = .off) (hfree : s.test.context = none) (hgate : s.WakeGate) (hready : s.pins.ready = false) :
    s.terminalReacts = { s with
      term := { s.term with
        mode := .booting, bootTimer := some s.clock, idleTimer := none, retryWait := none, wakePending := false
        wakeMark := decide (s.term.mode = .hold) }
      test := { s.test with wakeCheck := if s.term.mode = .hold then some s.batt.band else s.test.wakeCheck } } := by
  have hforced : ¬ s.ForcedNow := by
    rintro ⟨-, -, hactive, -⟩
    simp [hactive] at hmode
  rw [State.terminalReacts, if_pos (by simp [State.acting, hband]), State.powerTests_of_neither (fun h => h.not_wakeGate hgate) hforced]
  exact State.regateWake_of_gate hpending hband hmode hfree hgate hready

/-- The terminal interface has nothing to do where no test of R144, R145 holds and no wake is pending. -/
theorem State.terminalReacts_of_neither (hcutoff : ¬ s.CutoffNow) (hforced : ¬ s.ForcedNow) (hnone : s.term.wakePending = false) :
    s.terminalReacts = s := by
  rw [State.terminalReacts, State.powerTests_of_neither hcutoff hforced, State.regateWake_of_none hnone, ite_self]

/-- A pending wake that may not be made leaves the terminal to the tests of an outage (R139, R144, R145). -/
theorem State.terminalReacts_of_barred (hbarred : s.test.context ≠ none ∨ ¬ s.WakeGate) (hcutoff : ¬ s.CutoffNow) (hforced : ¬ s.ForcedNow) :
    s.terminalReacts = s := by
  rw [State.terminalReacts, State.powerTests_of_neither hcutoff hforced, State.regateWake_of_barred hbarred, ite_self]

end

/-! ### The band evaluation (R127 to R130) -/

/-- The station with its evaluation counted. -/
def State.evalCounted (s : State) : State := { s with batt := { s.batt with evalCount := 0 } }

/-- The band that an evaluation gives (R128). -/
def State.bandFound (s : State) : Band := newBand s.chemistry s.batt.band (s.batt.window.sum / s.batt.window.length)

/-- The station with the band that an evaluation gives, switches and test unit told, the terminal still to be (R128 to R131, R156). -/
def State.bandTaken (s : State) : State := (s.evalCounted.banded s.bandFound).testBandChange.examineCharge

/-- The terminal that rises from CUTOFF with its band (R145). -/
def State.BandRises (s : State) : Prop :=
  s.batt.band = .cutoff ∧ s.bandFound = .reserve ∧ s.term.mode = .off ∧ s.term.offReason = .cutoff

section
variable {s : State}

theorem exec_bandEvaluation (hrun : s.supply.power = .running) (hcount : 256 ≤ s.batt.evalCount) (hawake : s.supply.asleep = false) :
    exec .bandEvaluation s = .next s.evaluated.askSleep := by
  rw [exec, execBandEvaluation, whenRunning_of_running _ hrun, if_pos ⟨hawake, hcount⟩]

theorem State.evaluated_of_held (h : s.batt.hold = true ∨ s.batt.window = []) : s.evaluated = s.evalCounted := by
  unfold State.evaluated
  split
  · rfl
  next hfree =>
    rw [h.resolve_left hfree]
    rfl

theorem State.evaluated_eq (hhold : s.batt.hold = false) (hwindow : s.batt.window ≠ []) :
    s.evaluated = if s.bandFound = s.batt.band then s.evalCounted else (s.evalCounted.setBand s.bandFound).raiseCarry := by
  have hmean : windowMean s.batt.window = some (s.batt.window.sum / s.batt.window.length) := if_neg (by simpa using hwindow)
  rw [State.evaluated, if_neg (by simp [hhold]), hmean]
  rfl

theorem State.setBand_of_first (h : s.batt.band = .unrated) :
    s.evalCounted.setBand s.bandFound = s.bandTaken.leaveStart.settleRepeat.requestStatus :=
  (State.setBand_eq _ _).trans (if_pos h)

theorem State.setBand_of_later (h : s.batt.band ≠ .unrated) :
    s.evalCounted.setBand s.bandFound = s.bandTaken.terminalBandChange s.batt.band :=
  (State.setBand_eq _ _).trans (if_neg h)

/-- A new band, told to a test unit that holds no band, leaves window and count as they are (R129, R156). -/
theorem State.testBandChange_batt (hhold : s.batt.hold = false) : s.testBandChange.batt.band = s.batt.band
    ∧ s.testBandChange.batt.discharge = s.batt.discharge ∧ s.testBandChange.batt.window = s.batt.window
    ∧ s.testBandChange.batt.evalCount = s.batt.evalCount := by
  obtain ⟨-, hband, hdischarge, hwindow, hcount⟩ := s.endTest_batt
  rw [hhold] at hwindow hcount
  unfold State.testBandChange
  split
  · exact ⟨rfl, rfl, rfl, rfl⟩
  next c hc =>
    split
    · simp [State.abortTest, State.abortTestDue, hc, hdischarge, hwindow, hcount]
    · exact ⟨rfl, rfl, rfl, rfl⟩

theorem State.bandTaken_batt (hhold : s.batt.hold = false) : s.bandTaken.batt.band = s.bandFound
    ∧ s.bandTaken.batt.discharge = dischargeAfter s.batt.band s.bandFound s.batt.discharge ∧ s.bandTaken.batt.window = s.batt.window
    ∧ s.bandTaken.batt.evalCount = 0 := by
  obtain ⟨hband, hdischarge, hwindow, hcount⟩ := State.testBandChange_batt (s := s.evalCounted.banded s.bandFound) hhold
  simp only [State.bandTaken, State.examineCharge_batt]
  exact ⟨hband, hdischarge, hwindow, hcount⟩

/-- With no test in flight a new band concerns battery monitor and terminal alone. -/
theorem State.bandTaken_of_free (hfree : s.test.context = none) :
    s.bandTaken.term = s.term ∧ s.bandTaken.test = s.test := by
  have hsame : (s.evalCounted.banded s.bandFound).testBandChange = s.evalCounted.banded s.bandFound := by
    rw [State.testBandChange, show (s.evalCounted.banded s.bandFound).test.context = none from hfree]
  rw [State.bandTaken, hsame]
  simp [State.evalCounted, State.banded]

theorem State.bandTaken_frame : s.bandTaken.clock = s.clock ∧ s.bandTaken.supply = s.supply ∧ s.bandTaken.pins = s.pins
    ∧ s.bandTaken.round = s.round ∧ s.bandTaken.peers = s.peers ∧ s.bandTaken.share = s.share ∧ s.bandTaken.demand = s.demand
    ∧ s.bandTaken.line = s.line ∧ s.bandTaken.conv = s.conv ∧ s.bandTaken.status = s.status ∧ s.bandTaken.pending = s.pending := by
  simp [State.bandTaken, State.evalCounted, State.banded]

/-- The band that an evaluation finds leaves no test in flight at CUTOFF (R130, R156). -/
theorem State.bandTaken_context (hsafe : TestSafe s) (hhold : s.batt.hold = false) (hcutoff : s.bandFound = .cutoff) :
    s.bandTaken.test.context = none := by
  obtain ⟨-, hlater, -⟩ := hsafe
  rw [hhold] at hlater
  have hcontext : (s.evalCounted.banded s.bandFound).testBandChange.test.context = none := by
    unfold State.testBandChange
    split
    next hnone => exact hnone
    next c hc =>
      have hphase : s.testPhase = some c.phase := by simp [State.testPhase, show s.test.context = some c from hc]
      rw [hphase] at hlater
      have hsettle : c.phase = .settle := by cases hp : c.phase <;> simp_all
      rw [if_pos ⟨hsettle, by simp [State.banded, hcutoff, Band.testable]⟩]
      exact State.abortTest_context _ _
  simpa [State.bandTaken] using hcontext

end

/-- The discharge switch is open exactly at CUTOFF, before and after an evaluation (R130). -/
theorem dischargeAfter_safe {old new : Band} {sw : Switch} (h : sw = .opened ↔ old = .cutoff) :
    dischargeAfter old new sw = .opened ↔ new = .cutoff := by
  unfold dischargeAfter
  split
  next hnew => simp [hnew]
  next hnew =>
    split
    · simp [hnew]
    next hold => simp [h, hold, hnew]

/-- What the terminal interface sees of a station with new mains state, band or feed grant (R139, R144, R145). -/
structure State.Sees (t s : State) (mains : MainsState) (band : Band) (grant : Nat) : Prop where
  straps : t.supply.strapWord = s.supply.strapWord
  mode : t.term.mode = s.term.mode
  demand : t.term.demand = s.term.demand
  mains : t.supply.mains = mains
  band : t.batt.band = band
  grant : t.share.feedGrant = grant

section
variable {s t : State} {mains : MainsState} {band : Band} {grant : Nat} (h : t.Sees s mains band grant)

include h

theorem State.Sees.cutoffNow : t.CutoffNow ↔ mains = .absent ∧ band = .cutoff ∧ ((s.term.mode = .hold ∧ grant < s.holdDraw)
    ∨ (s.term.mode = .booting ∧ grant < s.bootDraw) ∨ (s.term.mode = .active ∧ grant < s.activeDraw)) := by
  obtain ⟨hstraps, hmode, -, hmains, hband, hgrant⟩ := h
  simp only [State.CutoffNow, State.holdDraw, State.bootDraw, State.activeDraw, State.profile, hstraps, hmode, hmains, hband, hgrant]

theorem State.Sees.forcedNow : t.ForcedNow ↔ mains = .absent ∧ band = .reserve ∧ s.term.mode = .active
    ∧ (s.term.demand = .idle ∨ s.term.demand = .wanted) ∧ grant < s.activeDraw := by
  obtain ⟨hstraps, hmode, hdemand, hmains, hband, hgrant⟩ := h
  simp only [State.ForcedNow, State.activeDraw, State.profile, hstraps, hmode, hdemand, hmains, hband, hgrant]

theorem State.Sees.wakeGate : t.WakeGate ↔ mains = .present ∨ band = .full ∨ band = .good ∨ band = .low
    ∨ (band = .reserve ∧ (s.term.demand = .emergency ∨ s.bootDraw ≤ grant)) ∨ (band = .cutoff ∧ s.bootDraw ≤ grant) := by
  obtain ⟨hstraps, -, hdemand, hmains, hband, hgrant⟩ := h
  simp only [State.WakeGate, State.bootDraw, State.profile, hstraps, hdemand, hmains, hband, hgrant]

end

/-- What the terminal interface sees of an evaluation with no test in flight. -/
theorem State.bandTaken_sees {s : State} (hhold : s.batt.hold = false) (hfree : s.test.context = none) :
    s.bandTaken.Sees s s.supply.mains s.bandFound s.share.feedGrant := by
  obtain ⟨-, hsupply, -, -, -, hshare, -⟩ := s.bandTaken_frame
  obtain ⟨hterm, -⟩ := State.bandTaken_of_free hfree
  obtain ⟨hband, -⟩ := State.bandTaken_batt hhold
  exact ⟨by rw [hsupply], by rw [hterm], by rw [hterm], by rw [hsupply], hband, by rw [hshare]⟩

theorem bandRank_low_le (b : Band) : bandRank .low ≤ bandRank b ↔ b = .full ∨ b = .good ∨ b = .low := by
  cases b <;> decide

/-! ### Leaving the start (R137) -/

section
variable {s : State} (hoff : s.term.mode = .off) (hstart : s.term.offReason = .start)

include hoff hstart

theorem State.leaveStart_of_present (hmains : s.supply.mains = .present) (hready : s.pins.ready = false) :
    s.leaveStart = { s with term := { s.term with
      mode := .booting, bootTimer := some s.clock, idleTimer := none, retryWait := none, retryCount := 0, wakeMark := false } } := by
  rw [State.leaveStart, if_pos ⟨hoff, hstart⟩, if_pos hmains]
  exact State.bootReady_of_not_ready hready

theorem State.leaveStart_of_cutoff (hmains : s.supply.mains = .absent) (hband : s.batt.band = .cutoff) :
    s.leaveStart = { s with term := { s.term with offReason := .cutoff } } := by
  rw [State.leaveStart, if_pos ⟨hoff, hstart⟩, if_neg (by simp [hmains]), if_pos hband]

/-- In an outage above CUTOFF the terminal holds, and a demand requests a wake. -/
theorem State.leaveStart_of_outage (hmains : s.supply.mains = .absent) (hband : s.batt.band ≠ .cutoff) :
    s.leaveStart = if s.term.demand = .idle then s.enterHold else s.enterHold.requestWake := by
  rw [State.leaveStart, if_pos ⟨hoff, hstart⟩, if_neg (by simp [hmains]), if_neg hband]
  rfl

theorem State.leaveStart_wakes (hmains : s.supply.mains = .absent) (hband : s.batt.band ≠ .cutoff) (hdemand : s.term.demand ≠ .idle)
    (hfree : s.test.context = none) (hready : s.pins.ready = false) (hgate : s.WakeGate) : s.leaveStart.term.mode = .booting := by
  rw [State.leaveStart_of_outage hoff hstart hmains hband, if_neg hdemand, State.requestWake_of_gate (s := s.enterHold) hfree hgate hready]

theorem State.leaveStart_waits (hmains : s.supply.mains = .absent) (hband : s.batt.band ≠ .cutoff) (hdemand : s.term.demand ≠ .idle)
    (hgate : ¬ s.WakeGate) : s.leaveStart.term.mode = .hold ∧ s.leaveStart.term.wakePending = true := by
  rw [State.leaveStart_of_outage hoff hstart hmains hband, if_neg hdemand, State.requestWake_of_barred (s := s.enterHold) (.inr hgate)]
  exact ⟨rfl, rfl⟩

end

/-- Settles O42. -/
theorem firstEvaluationLeavesStart : Obligations.FirstEvaluationLeavesStart := by
  intro s hrun hcount hhold hwindow hawake hfirst hfree hready
  have hnew : s.bandFound ≠ .unrated := newBand_ne_unrated _ _ _
  have heval : s.evaluated = s.bandTaken.leaveStart.settleRepeat.requestStatus.raiseCarry := by
    rw [State.evaluated_eq hhold hwindow, if_neg (hfirst ▸ hnew), State.setBand_of_first hfirst]
  obtain ⟨hclock, hsupply, hpins, hround, hpeers, hshare, hdemand, hline, hconv, hstatus, hpending⟩ := s.bandTaken_frame
  obtain ⟨hterm, htest⟩ := State.bandTaken_of_free hfree
  obtain ⟨hband, -⟩ := State.bandTaken_batt hhold
  have hsees := State.bandTaken_sees hhold hfree
  have hterm' : s.evaluated.term = s.bandTaken.leaveStart.term := by simp [heval]
  have hband' : s.evaluated.batt.band = s.bandFound := by simp [heval, hband]
  have hready' : s.bandTaken.pins.ready = false := by rw [hpins, hready]
  have hmains' : s.bandTaken.supply.mains = s.supply.mains := by rw [hsupply]
  have hwakes := hsees.wakeGate
  have hfree' : s.bandTaken.test.context = none := by rw [htest, hfree]
  rw [← hterm] at hwakes
  refine ⟨s.evaluated, exec_bandEvaluation hrun hcount hawake, hband' ▸ hnew, ?_, fun hoff hstart => ?_, fun hfault => ?_, ?_⟩
  · rw [heval, (State.raiseCarry_frame _).2.2.2.2.2.2.2.2.2.2.2.1]
    exact State.requestStatus_asks _
  · rw [hterm', hband', ← hband, ← hterm, ← hmains']
    rw [← hband] at hwakes
    rw [← hterm] at hoff hstart
    refine ⟨fun hmains => ?_, fun hmains hcutoff => ?_, fun hmains hcutoff hidle => ?_, fun hmains hlow hdemand => ?_,
      fun hmains hreserve hdemand => ⟨fun hgrant => ?_, fun hcalm hgrant => ?_⟩⟩
    · rw [State.leaveStart_of_present hoff hstart hmains hready', hclock]
      exact ⟨rfl, rfl, rfl⟩
    · rw [State.leaveStart_of_cutoff hoff hstart hmains hcutoff]
      exact ⟨hoff, rfl⟩
    · rw [State.leaveStart_of_outage hoff hstart hmains hcutoff, if_pos hidle]
      rfl
    · have hbands := (bandRank_low_le _).1 hlow
      refine State.leaveStart_wakes hoff hstart hmains ?_ hdemand hfree' hready' (hwakes.2 (.inr ?_))
      · rcases hbands with h | h | h <;> simp [h]
      · exact hbands.imp_right fun h => h.imp_right .inl
    · exact State.leaveStart_wakes hoff hstart hmains (by simp [hreserve]) hdemand hfree' hready' 
        (hwakes.2 (.inr (.inr (.inr (.inr (.inl ⟨hreserve, hgrant⟩))))))
    · refine State.leaveStart_waits hoff hstart hmains (by simp [hreserve]) hdemand (mt hwakes.1 ?_)
      simp [← hmains', hmains, hreserve, hcalm, hgrant]
  · rw [hterm', State.leaveStart, if_neg (by simp [hterm, hfault]), hterm]
  · apply State.eq_of_blocks <;> simp

/-! ### A change of band (R139, R144, R145) -/

/-- What an evaluation that may be made leaves of the battery monitor (R127, R128, R130). -/
theorem State.evaluated_batt {s : State} (hhold : s.batt.hold = false) (hwindow : s.batt.window ≠ []) (hsafe : DischargeSafe s) :
    s.evaluated.batt.evalCount = 0 ∧ s.evaluated.batt.window = s.batt.window ∧ s.evaluated.batt.band = s.bandFound
      ∧ (s.evaluated.batt.discharge = .opened ↔ s.evaluated.batt.band = .cutoff) := by
  obtain ⟨hband, hdischarge, htaken, hcount⟩ := State.bandTaken_batt hhold
  have hdone (t : State) (ht : t.batt = s.bandTaken.batt) : t.batt.evalCount = 0 ∧ t.batt.window = s.batt.window
      ∧ t.batt.band = s.bandFound ∧ (t.batt.discharge = .opened ↔ t.batt.band = .cutoff) := by
    rw [ht, hband, hdischarge]
    exact ⟨hcount, htaken, rfl, dischargeAfter_safe hsafe⟩
  rw [State.evaluated_eq hhold hwindow]
  split
  next hsame => exact ⟨rfl, rfl, hsame.symm, hsafe⟩
  next =>
    by_cases hfirst : s.batt.band = .unrated
    · exact hdone _ (by simp [State.setBand_of_first hfirst])
    · exact hdone _ (by simp [State.setBand_of_later hfirst])

/-- No test is in flight after an evaluation at CUTOFF (R130, R156). -/
theorem State.evaluated_context {s : State} (hhold : s.batt.hold = false) (hwindow : s.batt.window ≠ []) (hsafe : TestSafe s)
    (hcutoff : s.bandFound = .cutoff) : s.evaluated.test.context = none := by
  have hnone := State.bandTaken_context hsafe hhold hcutoff
  rw [State.evaluated_eq hhold hwindow]
  split
  next hsame =>
    refine Classical.byContradiction fun hflight => ?_
    have hgood := hsafe.2.2 (Option.isSome_iff_ne_none.2 hflight)
    rw [← hsame, hcutoff] at hgood
    cases hgood
  next =>
    by_cases hfirst : s.batt.band = .unrated
    · simp [State.setBand_of_first hfirst, State.raiseCarry_test, hnone]
    · simp [State.setBand_of_later hfirst, State.raiseCarry_test, hnone]

/-- The terminal's answer to a change of band, but for the rise from CUTOFF (R139, R144, R145). -/
theorem State.bandTaken_change {s : State} (hhold : s.batt.hold = false) (hfree : s.test.context = none) (hrises : ¬ s.BandRises) :
    s.bandTaken.terminalBandChange s.batt.band = s.bandTaken.terminalReacts := by
  obtain ⟨hband, -⟩ := State.bandTaken_batt hhold
  obtain ⟨hterm, -⟩ := State.bandTaken_of_free hfree
  rw [State.terminalBandChange, if_neg]
  rwa [hband, hterm]

/-- The terminal's answer to the rise from CUTOFF (R139, R145). -/
theorem State.bandTaken_rises {s : State} (hhold : s.batt.hold = false) (hfree : s.test.context = none) (hrises : s.BandRises) :
    s.bandTaken.terminalBandChange s.batt.band = s.bandTaken.enterHold.terminalReacts := by
  obtain ⟨hband, -⟩ := State.bandTaken_batt hhold
  obtain ⟨hterm, -⟩ := State.bandTaken_of_free hfree
  rw [State.terminalBandChange, if_pos]
  rwa [hband, hterm]

section
variable {s : State} (hfree : s.test.context = none)

include hfree

/-- A change of band that takes the terminal off (R145). -/
theorem State.bandChange_cutoff (hcutoff : s.bandTaken.CutoffNow) (hrises : ¬ s.BandRises) (hhold : s.batt.hold = false) :
    let t := s.bandTaken.terminalBandChange s.batt.band
    t.term = { s.term with mode := .off, offReason := .cutoff, bootTimer := none, idleTimer := none, retryCount := 0, wakeMark := false }
      ∧ t.test.results = s.test.results ∧ (s.term.wakeMark = true → t.test.wakeCheck = none) := by
  obtain ⟨hterm, htest⟩ := State.bandTaken_of_free hfree
  dsimp only
  rw [State.bandTaken_change hhold hfree hrises, State.terminalReacts_of_cutoff hcutoff, hterm, htest]
  exact ⟨rfl, rfl, fun hmark => if_pos hmark⟩

theorem State.bandChange_forced (hforced : s.bandTaken.ForcedNow) (hnone : s.term.wakePending = false) (hrises : ¬ s.BandRises)
    (hhold : s.batt.hold = false) : (s.bandTaken.terminalBandChange s.batt.band).term
      = { s.term with mode := .hold, idleTimer := none, bootTimer := none } := by
  obtain ⟨hterm, -⟩ := State.bandTaken_of_free hfree
  rw [State.bandTaken_change hhold hfree hrises, State.terminalReacts_of_forced hforced (by rw [hterm, hnone])]
  rw [State.enterHold_term, hterm]

/-- The rise to RESERVE finds the terminal held, its pending wake kept where it may not be made (R145). -/
theorem State.bandChange_rises (hrises : s.BandRises) (hbarred : s.term.wakePending = false ∨ ¬ s.bandTaken.WakeGate)
    (hhold : s.batt.hold = false) : (s.bandTaken.terminalBandChange s.batt.band).term
      = { s.term with mode := .hold, idleTimer := none, bootTimer := none } := by
  obtain ⟨hterm, -⟩ := State.bandTaken_of_free hfree
  obtain ⟨hband, -⟩ := State.bandTaken_batt hhold
  have hreserve : s.bandFound = .reserve := hrises.2.1
  have hcutoff : ¬ s.bandTaken.enterHold.CutoffNow := fun h => by
    have hlow : s.bandTaken.batt.band = .cutoff := h.2.1
    simp [hband, hreserve] at hlow
  have hforced : ¬ s.bandTaken.enterHold.ForcedNow := fun h => by
    have hactive : s.bandTaken.enterHold.term.mode = .active := h.2.2.1
    simp at hactive
  have hsame : s.bandTaken.enterHold.terminalReacts = s.bandTaken.enterHold := by
    rcases hbarred with hnone | hgate
    · exact State.terminalReacts_of_neither hcutoff hforced (by simp [hterm, hnone])
    · exact State.terminalReacts_of_barred (.inr hgate) hcutoff hforced
  rw [State.bandTaken_rises hhold hfree hrises, hsame, State.enterHold_term, hterm]

/-- A change of band that lets a pending wake through (R139). -/
theorem State.bandChange_wakes (hpending : s.term.wakePending = true) (hmode : s.term.mode = .hold ∨ s.term.mode = .off)
    (hready : s.pins.ready = false) (hgate : s.bandTaken.WakeGate) (hhold : s.batt.hold = false) :
    let t := s.bandTaken.terminalBandChange s.batt.band
    t.term = { s.term with
        mode := .booting, bootTimer := some s.clock, idleTimer := none, retryWait := none, wakePending := false
        wakeMark := t.term.wakeMark }
      ∧ (t.term.wakeMark = true ↔ s.term.mode = .hold ∨ s.BandRises)
      ∧ t.test.wakeCheck = (if t.term.wakeMark then some s.bandFound else s.test.wakeCheck) := by
  obtain ⟨hclock, -, hpins, -⟩ := s.bandTaken_frame
  obtain ⟨hterm, htest⟩ := State.bandTaken_of_free hfree
  obtain ⟨hband, -⟩ := State.bandTaken_batt hhold
  have hrated : s.bandFound ≠ .unrated := newBand_ne_unrated _ _ _
  dsimp only
  by_cases hrises : s.BandRises
  · rw [State.bandTaken_rises hhold hfree hrises]
    rw [State.terminalReacts_of_gate (s := s.bandTaken.enterHold) (by simp [hterm, hpending]) (by simp [hband, hrated]) (.inl rfl)
      (by simp [htest, hfree]) hgate (by simp [hpins, hready])]
    simp [hterm, htest, hclock, hband, hrises]
  · rw [State.bandTaken_change hhold hfree hrises]
    rw [State.terminalReacts_of_gate (s := s.bandTaken) (by simp [hterm, hpending]) (by simp [hband, hrated]) (by rwa [hterm])
      (by simp [htest, hfree]) hgate (by simp [hpins, hready])]
    simp [hterm, htest, hclock, hband, hrises]

theorem State.bandChange_neither (hcutoff : ¬ s.bandTaken.CutoffNow) (hforced : ¬ s.bandTaken.ForcedNow) (hrises : ¬ s.BandRises)
    (hnone : s.term.wakePending = false) (hhold : s.batt.hold = false) :
    (s.bandTaken.terminalBandChange s.batt.band).term = s.term := by
  obtain ⟨hterm, -⟩ := State.bandTaken_of_free hfree
  rw [State.bandTaken_change hhold hfree hrises, State.terminalReacts_of_neither hcutoff hforced (by rw [hterm, hnone]), hterm]

end

/-- Settles O41. -/
theorem bandEvaluationSetsBand : Obligations.BandEvaluationSetsBand := by
  intro s hrun hcount
  refine ⟨fun hasleep => ?_, fun hawake hheld => ?_, fun hawake hhold hwindow htest hdischarge => ?_⟩
  · rw [exec, execBandEvaluation, whenRunning_of_running _ hrun, if_neg (by simp [hasleep])]
  · rw [exec_bandEvaluation hrun hcount hawake, State.evaluated_of_held hheld]
    rfl
  · obtain ⟨hzero, hkept, hband, hopen⟩ := State.evaluated_batt hhold hwindow hdischarge
    refine ⟨s.evaluated, exec_bandEvaluation hrun hcount hawake, hzero, hkept, hband, hopen, fun hcutoff => ?_,
      fun hrated hfree hchange => ?_, fun hsame => ?_, ?_⟩
    · exact State.evaluated_context hhold hwindow htest (hband ▸ hcutoff)
    · rw [hband] at hchange ⊢
      have heval : s.evaluated = (s.bandTaken.terminalBandChange s.batt.band).raiseCarry := by
        rw [State.evaluated_eq hhold hwindow, if_neg hchange, State.setBand_of_later hrated]
      have hsees := State.bandTaken_sees hhold hfree
      have hterm : s.evaluated.term = (s.bandTaken.terminalBandChange s.batt.band).term := by simp [heval]
      have hresults : s.evaluated.test.results = (s.bandTaken.terminalBandChange s.batt.band).test.results := by
        simp [heval, State.raiseCarry_test]
      have hcheck : s.evaluated.test.wakeCheck = (s.bandTaken.terminalBandChange s.batt.band).test.wakeCheck := by
        simp [heval, State.raiseCarry_test]
      rw [hterm, hresults, hcheck, State.holdLine, hterm]
      intro grant cutoff forced rises
      have hsafe (hlow : s.bandFound ≠ .reserve) : ¬ s.BandRises := fun h => hlow h.2.1
      refine ⟨fun h => ?_, ?_, fun hpending hmode hready hgate => ?_, fun hc hf hr hnone => ?_⟩
      · exact State.bandChange_cutoff hfree (hsees.cutoffNow.2 h) (hsafe (by simp [h.2.1])) hhold
      · have hheld : (forced ∧ s.term.wakePending = false)
            ∨ (rises ∧ (s.term.wakePending = false ∨ (s.supply.mains = .absent ∧ s.term.demand ≠ .emergency ∧ grant < s.bootDraw))) →
            (s.bandTaken.terminalBandChange s.batt.band).term = { s.term with mode := .hold, idleTimer := none, bootTimer := none } := by
          rintro (⟨hf, hnone⟩ | ⟨hr, hnone | ⟨hmains, hcalm, hgrant⟩⟩)
          · refine State.bandChange_forced hfree (hsees.forcedNow.2 hf) hnone (fun hr => ?_) hhold
            exact absurd (hf.2.2.1.symm.trans hr.2.2.1) (by decide)
          · exact State.bandChange_rises hfree hr (.inl hnone) hhold
          · refine State.bandChange_rises hfree hr (.inr (mt hsees.wakeGate.1 ?_)) hhold
            simp [hmains, hr.2.1, hcalm]
            exact hgrant
        exact fun h => ⟨hheld h, by rw [hheld h]; rfl⟩
      · rw [bandRank_low_le, or_assoc, or_assoc] at hgate
        exact State.bandChange_wakes hfree hpending hmode hready (hsees.wakeGate.2 hgate) hhold
      · exact State.bandChange_neither hfree (mt hsees.cutoffNow.1 hc) (mt hsees.forcedNow.1 hf) hr hnone hhold
    · rw [State.evaluated_eq hhold hwindow, if_pos (hband ▸ hsame)]
      exact ⟨rfl, rfl⟩
    · apply State.eq_of_blocks <;> simp

end Sys2Proof.Machine

end

section
/-! ## The ready line -/

namespace Sys2Proof.Machine

/-! ### The ready line (R135, R140, R142) -/

theorem TerminalMode.lines_iff (m : TerminalMode) : (m.powerEnable = true ↔ m = .hold ∨ m = .booting ∨ m = .active)
    ∧ (m.holdLine = true ↔ m = .hold) := by
  cases m <;> decide

/-- The station whose terminal has come up on a boot that began at a time, before R144 and R145 are applied (R140, R157). -/
def State.cameUp (s : State) (began : Time) : State :=
  let handed := if s.term.wakeMark then
    (s.addResult .wake .ok (some (bootTenths began s.clock)) (s.test.wakeCheck.getD s.batt.band)).closeWakeCheck else s
  { handed with term := { s.term with
      mode := .active, bootTimer := none, retryCount := 0, wakeMark := false
      idleTimer := if s.supply.mains = .absent ∧ s.term.demand = .idle then some s.clock else none } }

section
variable (s : State) (began : Time)

theorem State.enterActive_eq : s.enterActive began = (s.cameUp began).powerTests := by
  have htimer : (s.inOutage && decide (s.term.demand = .idle)) = decide (s.supply.mains = .absent ∧ s.term.demand = .idle) := by
    simp [State.inOutage]
  unfold State.enterActive State.cameUp
  dsimp only
  rw [htimer]
  cases s.term.wakeMark <;> simp

@[simp] theorem State.cameUp_frame : (s.cameUp began).clock = s.clock ∧ (s.cameUp began).supply = s.supply ∧ (s.cameUp began).pins = s.pins
    ∧ (s.cameUp began).round = s.round ∧ (s.cameUp began).peers = s.peers ∧ (s.cameUp began).share = s.share
    ∧ (s.cameUp began).demand = s.demand ∧ (s.cameUp began).line = s.line ∧ (s.cameUp began).conv = s.conv
    ∧ (s.cameUp began).batt = s.batt ∧ (s.cameUp began).status = s.status ∧ (s.cameUp began).pending = s.pending := by
  unfold State.cameUp
  cases s.term.wakeMark <;> simp

/-- The boot time handed over, and the wake check closed (R157). -/
theorem State.cameUp_test : (s.term.wakeMark = true → (s.cameUp began).test.wakeCheck = none ∧ (s.cameUp began).test.results.head?
      = some { kind := .wake, verdict := .ok, value := some (bootTenths began s.clock), round := s.round.number
               band := s.test.wakeCheck.getD s.batt.band })
    ∧ (s.term.wakeMark = false → (s.cameUp began).test = s.test) := by
  unfold State.cameUp
  cases s.term.wakeMark <;> simp

/-- R144 and R145 leave the results, and a wake check that is not marked. -/
theorem State.powerTests_results {s : State} (hmark : s.term.wakeMark = false) : s.powerTests.test = s.test := by
  by_cases hcutoff : s.CutoffNow
  · rw [State.powerTests_of_cutoff hcutoff, hmark]
    rfl
  · by_cases hforced : s.ForcedNow
    · simp [State.powerTests_of_forced hforced]
    · rw [State.powerTests_of_neither hcutoff hforced]

end

theorem State.bootReady_of_up {s : State} {began : Time} (htimer : s.term.bootTimer = some began) (hready : s.pins.ready = true)
    (hmode : s.term.mode = .booting) (hlimit : s.clock - began ≤ sec s.bootLimit) : s.bootReady = s.enterActive began := by
  rw [State.bootReady, htimer]
  exact if_pos (by simp [hready, hmode, hlimit])

theorem State.bootReady_of_not_booting {s : State} (hmode : s.term.mode ≠ .booting) : s.bootReady = s := by
  unfold State.bootReady
  split <;> simp [hmode]

/-- The station with its ready line asserted. -/
def State.readyUp (s : State) : State := { s with pins := { s.pins with ready := true } }

/-- The station with its ready line fallen. -/
def State.readyDown (s : State) : State := { s with pins := { s.pins with ready := false } }

section
variable {s : State}

/-- A ready line that changes nothing of the part's sleep (R165). -/
theorem exec_readySeen (hrun : s.supply.power = .running) (h : s.supply.asleep = false ∨ s.pins.ready = true) :
    exec .readySeen s = .next s.readyUp.bootReady.raiseCarry.askSleep := by
  have hawake : (if s.pins.ready then s else s.wakeUp) = s := by
    split
    · rfl
    next hr => exact State.wakeUp_of_awake (h.resolve_right hr)
  rw [exec, execReadySeen, whenRunning_of_running _ hrun, hawake]
  rfl

theorem exec_readySeen_asleep (hrun : s.supply.power = .running) (hready : s.pins.ready = false) :
    exec .readySeen s = .next s.wakeUp.readyUp.bootReady.raiseCarry.askSleep := by
  rw [exec, execReadySeen, whenRunning_of_running _ hrun, if_neg (by simp [hready])]
  rfl

/-- What a lost ready line does once it is seen (R142). -/
def State.readyGone (s : State) : State := if s.term.mode = .active then s.readyDown.linkLost else s.readyDown

@[simp] theorem State.readyGone_frame : s.readyGone.clock = s.clock ∧ s.readyGone.supply = s.supply
    ∧ s.readyGone.pins = { s.pins with ready := false } ∧ s.readyGone.round = s.round ∧ s.readyGone.peers = s.peers
    ∧ s.readyGone.share = s.share ∧ s.readyGone.demand = s.demand ∧ s.readyGone.line = s.line ∧ s.readyGone.conv = s.conv
    ∧ s.readyGone.status = s.status ∧ s.readyGone.pending = s.pending := by
  unfold State.readyGone State.readyDown
  split <;> simp

theorem exec_readyLost (hrun : s.supply.power = .running) (h : s.supply.asleep = false ∨ s.pins.ready = false) :
    exec .readyLost s = .next s.readyGone.askSleep := by
  have hawake : (if s.pins.ready then s.wakeUp else s) = s := by
    split
    next hr => exact State.wakeUp_of_awake (h.resolve_right (by simp [hr]))
    · rfl
  rw [exec, execReadyLost, whenRunning_of_running _ hrun, hawake]
  rfl

theorem exec_readyLost_asleep (hrun : s.supply.power = .running) (hready : s.pins.ready = true) :
    exec .readyLost s = .next s.wakeUp.readyGone.askSleep := by
  rw [exec, execReadyLost, whenRunning_of_running _ hrun, if_pos hready]
  rfl

end

/-- A wake changes the repeat timer alone of the status reporter (R165, R167). -/
theorem State.wakeUp_status (s : State) : s.wakeUp.status = { s.status with repeatTimer := s.wakeUp.status.repeatTimer } := by
  unfold State.wakeUp
  split
  · rw [State.settleRepeat_eq]
  · rfl

/-- A test that ends at a terminal that is BOOTING moves neither it nor its wake check (R143, R148). -/
theorem State.endTest_of_booting {s : State} (hmode : s.term.mode = .booting) : s.endTest.term = { s.term with deferredHold := false } := by
  obtain ⟨-, -, -, -, -, hterm, -, -⟩ := s.testCleared_frame
  rw [State.endTest_eq, State.terminalTestEnded_of_not_active (by simp [hterm, hmode]), State.regateWake_eq, if_neg]
  · rw [hterm]
  · simp [hterm, hmode]

/-- The boot that a lost ready line begins (R142). -/
theorem State.linkLost_term {s : State} (hready : s.pins.ready = false) : ∃ deferred, s.linkLost.term = { s.term with
    mode := .booting, bootTimer := some s.clock, idleTimer := none, retryWait := none, retryCount := 0, wakeMark := false
    deferredHold := deferred } := by
  have hboot : State.enterBooting { s with term := { s.term with retryCount := 0, wakeMark := false } } = { s with term := { s.term with
      mode := .booting, bootTimer := some s.clock, idleTimer := none, retryWait := none, retryCount := 0, wakeMark := false } } :=
    State.bootReady_of_not_ready hready
  rw [State.linkLost, hboot, State.abortTest, State.abortTestDue]
  split
  · exact ⟨_, rfl⟩
  · refine ⟨false, ?_⟩
    simp [State.endTest_of_booting]

/-- What R144 and R145 see of a terminal that has just come up. -/
theorem State.cameUp_sees (s : State) (began : Time) : (s.cameUp began).term = { s.term with
      mode := .active, bootTimer := none, retryCount := 0, wakeMark := false
      idleTimer := if s.supply.mains = .absent ∧ s.term.demand = .idle then some s.clock else none }
    ∧ ((s.cameUp began).CutoffNow ↔ (s.supply.mains = .absent ∧ s.share.feedGrant < s.activeDraw) ∧ s.batt.band = .cutoff)
    ∧ ((s.cameUp began).ForcedNow ↔ (s.supply.mains = .absent ∧ s.share.feedGrant < s.activeDraw) ∧ s.batt.band = .reserve
        ∧ (s.term.demand = .idle ∨ s.term.demand = .wanted)) := by
  obtain ⟨-, hsupply, -, -, -, hshare, -, -, -, hbatt, -⟩ := s.cameUp_frame began
  have hterm : (s.cameUp began).term = { s.term with
      mode := .active, bootTimer := none, retryCount := 0, wakeMark := false
      idleTimer := if s.supply.mains = .absent ∧ s.term.demand = .idle then some s.clock else none } := rfl
  have hmode : (s.cameUp began).term.mode = .active := rfl
  have hlevel : (s.cameUp began).term.demand = s.term.demand := rfl
  refine ⟨hterm, ?_, ?_⟩
  · simp only [State.CutoffNow, State.holdDraw, State.bootDraw, State.activeDraw, State.profile, hsupply, hshare, hbatt, hmode]
    simp
    grind
  · simp only [State.ForcedNow, State.activeDraw, State.profile, hsupply, hshare, hbatt, hmode, hlevel]
    grind

/-- Settles O47. -/
theorem readyLineMovesTerminal : Obligations.ReadyLineMovesTerminal := by
  refine ⟨fun s => s.term.mode.lines_iff, fun s began hrun hawake hmode htimer hlimit => ?_, fun s hrun hmode hawake => ?_,
    fun s hrun hmode => ?_, fun s hrun hawake hmode => ?_, fun s hrun hasleep hmode => ⟨fun hready => ?_, fun hready => ?_⟩⟩
  · intro short forced cutoff
    have hexec : exec .readySeen s = .next ((s.readyUp.cameUp began).powerTests.raiseCarry).askSleep := by
      rw [exec_readySeen hrun (.inl hawake), State.bootReady_of_up (s := s.readyUp) htimer rfl hmode ?_, State.enterActive_eq]
      exact Nat.le_trans hlimit (Nat.le_of_eq (Nat.mul_comm _ _))
    obtain ⟨hterm, hcutoff, hforced⟩ := s.readyUp.cameUp_sees began
    obtain ⟨hmarked, hunmarked⟩ := s.readyUp.cameUp_test began
    have hfinal : ((s.readyUp.cameUp began).powerTests.raiseCarry).term = (s.readyUp.cameUp began).powerTests.term := by simp
    have htest : (s.readyUp.cameUp began).powerTests.test = (s.readyUp.cameUp began).test :=
      State.powerTests_results (by rw [hterm])
    refine ⟨_, hexec, fun hf hc => ?_, fun hf => ?_, fun hc => ?_, fun hmark => ?_, fun hmark => ?_, ?_⟩
    · rw [hfinal, State.powerTests_of_neither (fun h => hc (hcutoff.1 h)) (fun h => hf (hforced.1 h)), hterm]
      rfl
    · rw [hfinal, State.powerTests_of_forced (hforced.2 hf), State.enterHold_term, hterm]
      rfl
    · rw [hfinal, State.powerTests_of_cutoff (hcutoff.2 hc), hterm]
      rfl
    · obtain ⟨hcheck, hhead⟩ := hmarked hmark
      simp only [State.raiseCarry_test, htest]
      exact ⟨hcheck, hhead⟩
    · simp only [State.raiseCarry_test, htest, hunmarked hmark]
      rfl
    · apply State.eq_of_blocks <;> simp [State.readyUp]
  · have hexec := exec_readySeen hrun hawake
    rw [State.bootReady_of_not_booting (s := s.readyUp) hmode] at hexec
    refine ⟨_, hexec, ?_⟩
    rw [State.raiseCarry_eq]
    rfl
  · have hlost (w : State) (hw : w.term = s.term) : w.readyGone.test.context = none ∧ ∃ deferred, w.readyGone.term = { s.term with
        mode := .booting, bootTimer := some w.clock, idleTimer := none, retryWait := none, retryCount := 0, wakeMark := false
        deferredHold := deferred } := by
      rw [State.readyGone, if_pos (by rw [hw, hmode]), ← hw]
      exact ⟨State.abortTest_context _ _, State.linkLost_term (s := w.readyDown) rfl⟩
    by_cases hsame : s.supply.asleep = false ∨ s.pins.ready = false
    · obtain ⟨hcontext, deferred, hterm⟩ := hlost s rfl
      refine ⟨_, exec_readyLost hrun hsame, ?_⟩
      rw [State.powerEnable, State.holdLine, hterm, hcontext]
      refine ⟨rfl, rfl, rfl, rfl, rfl, rfl, rfl, rfl, fun _ => by simp, ?_⟩
      apply State.eq_of_blocks <;> simp [hterm]
    · obtain ⟨hasleep, hready⟩ := not_or.1 hsame
      obtain ⟨hcontext, deferred, hterm⟩ := hlost s.wakeUp (by simp)
      refine ⟨_, exec_readyLost_asleep hrun (by simpa using hready), ?_⟩
      rw [State.powerEnable, State.holdLine, hterm, hcontext]
      refine ⟨rfl, rfl, rfl, by simp, rfl, rfl, rfl, rfl, fun hawake => absurd hawake hasleep, ?_⟩
      apply State.eq_of_blocks <;> simp [hterm]
      exact s.wakeUp_status
  · rw [exec_readyLost hrun hawake, State.readyGone, if_neg hmode]
    rfl
  · have hmode' : s.wakeUp.readyUp.term.mode ≠ .booting := by simpa [State.readyUp] using hmode
    refine ⟨_, exec_readySeen_asleep hrun hready, ?_⟩
    rw [State.bootReady_of_not_booting hmode', State.wakeUp_of_asleep hasleep]
    simp [State.readyUp]
  · refine ⟨_, exec_readyLost_asleep hrun hready, ?_⟩
    have hsupply : s.wakeUp.readyGone.supply = s.wakeUp.supply := by simp
    rw [hsupply, State.wakeUp_of_asleep hasleep]
    refine ⟨rfl, rfl, rfl, fun hdown => ?_⟩
    rw [State.readyGone, if_neg hdown]
    rfl

end Sys2Proof.Machine

end

section
/-! ## The demand level -/

namespace Sys2Proof.Machine

/-! ### The demand level (R136, R138, R143) -/

/-- A terminal whose demand is not IDLE keeps the idle timer stopped and the deferred hold clear. -/
def State.IdleOff (s : State) : Prop := s.term.demand ≠ .idle ∧ s.term.idleTimer = none ∧ s.term.deferredHold = false

section
variable {s : State} (h : s.IdleOff)

include h

theorem State.IdleOff.congr {t : State} (hterm : t.term = s.term) : t.IdleOff := by
  rw [State.IdleOff, hterm]
  exact h

theorem State.IdleOff.powerTests : s.powerTests.IdleOff := by
  obtain ⟨hdemand, hidle, hdeferred⟩ := h
  by_cases hcutoff : s.CutoffNow
  · rw [State.powerTests_of_cutoff hcutoff]
    exact ⟨hdemand, rfl, hdeferred⟩
  · by_cases hforced : s.ForcedNow
    · rw [State.powerTests_of_forced hforced]
      exact ⟨hdemand, rfl, hdeferred⟩
    · rw [State.powerTests_of_neither hcutoff hforced]
      exact ⟨hdemand, hidle, hdeferred⟩

theorem State.IdleOff.enterActive (began : Time) : (s.enterActive began).IdleOff := by
  obtain ⟨hdemand, hidle, hdeferred⟩ := h
  obtain ⟨hterm, -⟩ := s.cameUp_sees began
  rw [State.enterActive_eq]
  refine State.IdleOff.powerTests ?_
  rw [State.IdleOff, hterm]
  exact ⟨hdemand, if_neg fun hc => hdemand hc.2, hdeferred⟩

theorem State.IdleOff.enterBooting : s.enterBooting.IdleOff := by
  obtain ⟨hdemand, -, hdeferred⟩ := h
  have hboot : State.IdleOff { s with term := { s.term with
      mode := .booting, bootTimer := some s.clock, idleTimer := none, retryWait := none } } := ⟨hdemand, rfl, hdeferred⟩
  unfold State.enterBooting State.bootReady
  dsimp only
  split
  · exact hboot.enterActive _
  · exact hboot

theorem State.IdleOff.makeWake : s.makeWake.IdleOff := by
  unfold State.makeWake
  split <;> exact State.IdleOff.enterBooting h

theorem State.IdleOff.requestWake : s.requestWake.IdleOff := by
  unfold State.requestWake
  split
  · exact h.makeWake
  · exact h

theorem State.IdleOff.regateWake : s.regateWake.IdleOff := by
  unfold State.regateWake
  split
  · exact h.makeWake
  · exact h

theorem State.IdleOff.terminalReacts : s.terminalReacts.IdleOff := by
  unfold State.terminalReacts
  split
  · exact h.powerTests.regateWake
  · exact h

theorem State.IdleOff.demandWakes : s.demandWakes.IdleOff := by
  have hfault : State.IdleOff { s with term := { s.term with retryCount := 0 } } := h
  unfold State.demandWakes
  dsimp only
  (repeat' split)
  · exact h
  · exact h.requestWake
  · exact h
  · exact h.requestWake
  · exact State.IdleOff.requestWake h
  · exact h
  · exact h
  · exact hfault.makeWake
  · exact h
  · exact h
  · exact h

end

/-- The demand level taken, the part awake (R136). -/
def State.demandSet (s : State) : State :=
  { s.wakeUp with term := { s.wakeUp.term with demand := s.wakeUp.term.candidate } }

theorem State.demandTaken_eq {s : State} (hrated : s.batt.band ≠ .unrated) :
    s.demandTaken = s.demandSet.testAtDemand.idleAtDemand.demandWakes.terminalReacts.raiseCarry :=
  if_pos (by simp [State.acting, hrated])

/-- A newly taken level requests a wake (R138, R141). -/
def State.DemandRequests (s : State) : Prop :=
  ((s.term.mode = .hold ∨ (s.term.mode = .off ∧ s.term.offReason = .cutoff)) ∧ s.term.demand ≠ .idle)
    ∨ (s.term.mode = .off ∧ s.term.offReason = .retry) ∨ s.term.mode = .fault

/-- The station whose wake a newly taken level has made (R139). -/
def State.demandBooted (s : State) : State := { s with
  term := { s.term with
    mode := .booting, bootTimer := some s.clock, idleTimer := none, retryWait := none, wakePending := false
    wakeMark := decide (s.term.mode = .hold), retryCount := if s.term.mode = .fault then 0 else s.term.retryCount }
  test := { s.test with wakeCheck := if s.term.mode = .hold then some s.batt.band else s.test.wakeCheck } }

/-- The station whose wake a newly taken level has left pending (R139). -/
def State.demandWaits (s : State) : State := { s with
  term := { s.term with
    mode := if s.term.mode = .fault then .off else s.term.mode
    offReason := if s.term.mode = .fault then .released else s.term.offReason
    wakePending := true, retryCount := if s.term.mode = .fault then 0 else s.term.retryCount
    retryWait := if s.term.mode = .off ∧ s.term.offReason = .retry then none else s.term.retryWait } }

section
variable {s : State}

theorem State.demandWakes_of_no_request (h : ¬ s.DemandRequests) : s.demandWakes = s := by
  unfold State.DemandRequests at h
  unfold State.demandWakes
  cases hmode : s.term.mode <;> cases hreason : s.term.offReason <;> simp_all

theorem State.demandWakes_of_gate (h : s.DemandRequests) (hfree : s.test.context = none) (hgate : s.WakeGate) (hready : s.pins.ready = false) :
    s.demandWakes = s.demandBooted := by
  have hmade := State.requestWake_of_gate hfree hgate hready
  unfold State.demandWakes
  rcases h with ⟨hmode | ⟨hmode, hreason⟩, hdemand⟩ | ⟨hmode, hreason⟩ | hmode
  · rw [hmode]
    dsimp only
    rw [if_neg hdemand, hmade]
    simp [State.demandBooted, hmode]
  · rw [hmode, hreason]
    dsimp only
    rw [if_neg hdemand, hmade]
    simp [State.demandBooted, hmode]
  · rw [hmode, hreason]
    dsimp only
    rw [State.requestWake_of_gate (s := { s with term := { s.term with retryWait := none } }) hfree hgate hready]
    simp [State.demandBooted, hmode]
  · rw [hmode]
    dsimp only
    have hallowed : State.wakeAllowed { s with term := { s.term with retryCount := 0 } } = true :=
      (State.wakeAllowed_iff _).2 ⟨hfree, hgate⟩
    rw [if_pos hallowed, State.makeWake_of_not_ready (s := { s with term := { s.term with retryCount := 0 } }) hready]
    simp [State.demandBooted, hmode]

theorem State.demandWakes_of_barred (h : s.DemandRequests) (hgate : ¬ s.WakeGate) : s.demandWakes = s.demandWaits := by
  have hleft := State.requestWake_of_barred (s := s) (.inr hgate)
  unfold State.demandWakes
  rcases h with ⟨hmode | ⟨hmode, hreason⟩, hdemand⟩ | ⟨hmode, hreason⟩ | hmode
  · rw [hmode]
    dsimp only
    rw [if_neg hdemand, hleft]
    simp [State.demandWaits, hmode]
  · rw [hmode, hreason]
    dsimp only
    rw [if_neg hdemand, hleft]
    simp [State.demandWaits, hmode, hreason]
  · rw [hmode, hreason]
    dsimp only
    rw [State.requestWake_of_barred (s := { s with term := { s.term with retryWait := none } }) (.inr hgate)]
    simp [State.demandWaits, hmode, hreason]
  · rw [hmode]
    dsimp only
    have hbarred : State.wakeAllowed { s with term := { s.term with retryCount := 0 } } ≠ true := fun hallowed =>
      hgate ((State.wakeAllowed_iff _).1 hallowed).2
    rw [if_neg hbarred]
    simp [State.demandWaits, hmode]

/-- A wake that is requested or stands pending is made where its gating holds (R138, R139). -/
theorem State.demandAnswered_of_gate (hasks : s.DemandRequests ∨ (s.term.wakePending = true ∧ (s.term.mode = .hold ∨ s.term.mode = .off)))
    (hrated : s.batt.band ≠ .unrated) (hfree : s.test.context = none) (hgate : s.WakeGate) (hready : s.pins.ready = false) :
    s.demandWakes.terminalReacts = s.demandBooted := by
  by_cases hrequests : s.DemandRequests
  · rw [State.demandWakes_of_gate hrequests hfree hgate hready]
    have hgate' : s.demandBooted.WakeGate := hgate
    refine State.terminalReacts_of_neither (fun h => h.not_wakeGate hgate') (fun h => ?_) rfl
    exact absurd h.2.2.1 (by simp [State.demandBooted])
  · obtain ⟨hpending, hmode⟩ := hasks.resolve_left hrequests
    have hup : s.term.mode ≠ .fault := by rcases hmode with h | h <;> simp [h]
    rw [State.demandWakes_of_no_request hrequests, State.terminalReacts_of_gate hpending hrated hmode hfree hgate hready]
    simp [State.demandBooted, hup]

/-- A wake requested without its gating stands pending (R139). -/
theorem State.demandAnswered_of_barred (hrequests : s.DemandRequests) (hgate : ¬ s.WakeGate)
    (hcutoff : s.batt.band = .cutoff → s.term.mode ≠ .hold) : s.demandWakes.terminalReacts = s.demandWaits := by
  have hmodes : s.term.mode = .hold ∨ s.term.mode = .off ∨ s.term.mode = .fault := by
    rcases hrequests with ⟨h | ⟨h, -⟩, -⟩ | ⟨h, -⟩ | h <;> simp [h]
  have hgate' : ¬ s.demandWaits.WakeGate := hgate
  rw [State.demandWakes_of_barred hrequests hgate]
  refine State.terminalReacts_of_barred (.inr hgate') (fun h => ?_) (fun h => ?_)
  · obtain ⟨-, hband, hdraw⟩ := h
    have hnot := hcutoff hband
    rcases hmodes with h | h | h <;> simp_all [State.demandWaits]
  · have hactive := h.2.2.1
    rcases hmodes with h | h | h <;> simp_all [State.demandWaits]

end

/-! ### The level taken -/

/-- The demand level taken, the idle timer answered (R136, R143). -/
def State.demandHeard (s : State) : State := s.demandSet.idleAtDemand

section
variable {s : State}

theorem State.demandHeard_term : ∃ idle deferred, s.demandHeard.term
    = { s.term with demand := s.term.candidate, idleTimer := idle, deferredHold := deferred } := by
  have hset : s.demandSet.term = { s.term with demand := s.term.candidate } := by simp [State.demandSet]
  unfold State.demandHeard State.idleAtDemand
  split
  · split
    · exact ⟨_, _, by rw [hset]⟩
    · exact ⟨_, _, hset⟩
  · exact ⟨_, _, by rw [hset]⟩

theorem State.demandHeard_frame : s.demandHeard.clock = s.clock ∧ s.demandHeard.pins = s.pins ∧ s.demandHeard.share = s.share
    ∧ s.demandHeard.test = s.test ∧ s.demandHeard.batt.band = s.batt.band ∧ s.demandHeard.supply.mains = s.supply.mains
    ∧ s.demandHeard.supply.strapWord = s.supply.strapWord := by
  simp [State.demandHeard, State.demandSet]

end

@[simp] theorem State.idleAtDemand_demand (s : State) : s.idleAtDemand.term.demand = s.term.demand := by
  unfold State.idleAtDemand
  (repeat' split) <;> rfl

@[simp] theorem State.testAtDemand_demand (s : State) : s.testAtDemand.term.demand = s.term.demand := by
  unfold State.testAtDemand
  split <;> simp

@[simp] theorem State.demandWakes_demand (s : State) : s.demandWakes.term.demand = s.term.demand := by
  unfold State.demandWakes
  dsimp only
  (repeat' split) <;> simp

theorem State.testAtDemand_of_free {s : State} (hfree : s.test.context = none) : s.testAtDemand = s := by
  unfold State.testAtDemand
  split <;> simp [State.abortTest_of_none _ _ hfree]

/-- A level other than IDLE stops the idle timer and clears the deferred hold (R143). -/
theorem State.idleAtDemand_idleOff {s : State} (h : s.term.demand ≠ .idle) : s.idleAtDemand.IdleOff := by
  rw [State.idleAtDemand, if_neg h]
  exact ⟨h, rfl, rfl⟩

/-- SESSION and EMERGENCY leave no test in flight (R156). -/
theorem State.testAtDemand_context {s : State} (h : s.term.demand = .session ∨ s.term.demand = .emergency) :
    s.testAtDemand.test.context = none := by
  unfold State.testAtDemand
  rcases h with h | h <;> rw [h] <;> exact State.abortTest_context _ _

/-- Settles O46. -/
theorem demandLevelIsTaken : Obligations.DemandLevelIsTaken := by
  refine ⟨demandLevelOf_eq, fun l s hrun => ⟨fun hnew => ?_, fun hsame => ?_⟩, fun s hrun hnew hstood => ?_⟩
  · rw [exec, execDemandLinesChange, whenRunning_of_running _ hrun, if_neg hnew]
  · rw [exec, execDemandLinesChange, whenRunning_of_running _ hrun, if_pos hsame]
  · intro requests granted allowed
    have hexec : exec .demandLevelTaken s = .next s.demandTaken.askSleep := by
      rw [exec, execDemandLevelTaken, whenRunning_of_running _ hrun]
      refine congrArg (Host.Outcome.next ∘ State.askSleep) (if_pos ?_)
      rw [State.demandStood, Bool.and_eq_true, decide_eq_true_eq, decide_eq_true_eq]
      exact ⟨hnew, hstood⟩
    have hflat (hfirst : s.batt.band = .unrated) : s.demandTaken = { s with term := { s.term with demand := s.term.candidate } } :=
      if_neg (by simp [State.acting, hfirst])
    have hanswer (hrated : s.batt.band ≠ .unrated) (hfree : s.test.context = none) :
        s.demandTaken = s.demandHeard.demandWakes.terminalReacts.raiseCarry := by
      rw [State.demandTaken_eq hrated, State.testAtDemand_of_free (by simp [State.demandSet, hfree])]
      rfl
    obtain ⟨idle, deferred, hterm⟩ := s.demandHeard_term
    obtain ⟨hclock, hpins, hshare, htest, hband, hmains, hstraps⟩ := s.demandHeard_frame
    have hrequests : s.demandHeard.DemandRequests ↔ requests := by
      rw [State.DemandRequests, hterm]
    have hallowed : s.demandHeard.WakeGate ↔ allowed := by
      simp only [State.WakeGate, State.bootDraw, State.profile, hshare, hband, hmains, hstraps, hterm]
      rfl
    refine ⟨_, hexec, ?_, hflat, fun hrated => ⟨?_, fun hup => ?_, fun hbusy => ?_⟩, fun hrated hfree hready hasks hmay => ?_,
      fun hrated hfree hasks hnot hcutoff => ?_, fun hawake => ?_, ?_⟩
    · by_cases hfirst : s.batt.band = .unrated
      · rw [hflat hfirst]
      · rw [State.demandTaken_eq hfirst]
        simp [State.demandSet]
    · rw [State.demandTaken_eq hrated]
      simpa [State.demandSet] using s.wakeUp_supply.1
    · have hoff : s.demandSet.testAtDemand.idleAtDemand.IdleOff := State.idleAtDemand_idleOff (by simpa [State.demandSet] using hup)
      rw [State.demandTaken_eq hrated]
      exact (hoff.demandWakes.terminalReacts.congr (by simp)).2
    · have hnone : s.demandSet.testAtDemand.test.context = none := State.testAtDemand_context (by simpa [State.demandSet] using hbusy)
      simp [State.demandTaken_eq hrated, State.raiseCarry_test, hnone]
    · have hasks' : s.demandHeard.DemandRequests
          ∨ (s.demandHeard.term.wakePending = true ∧ (s.demandHeard.term.mode = .hold ∨ s.demandHeard.term.mode = .off)) := by
        rw [hrequests, hterm]
        exact hasks
      rw [hanswer hrated hfree, State.demandAnswered_of_gate hasks' (hband ▸ hrated) (htest ▸ hfree) (hallowed.2 hmay) (by rw [hpins, hready])]
      simp [State.demandBooted, State.raiseCarry_test, State.powerEnable, State.holdLine, TerminalMode.powerEnable, TerminalMode.holdLine,
        hterm, hclock, hband, htest]
    · rw [hanswer hrated hfree, State.demandAnswered_of_barred (hrequests.2 hasks) (mt hallowed.1 hnot) (by rw [hband, hterm]; exact hcutoff)]
      simp only [State.demandWaits, State.raiseCarry_frame, hterm]
      exact ⟨trivial, trivial, trivial, trivial, fun hoff hretry => if_pos ⟨hoff, hretry⟩⟩
    · by_cases hfirst : s.batt.band = .unrated
      · rw [hflat hfirst]
      · simp [State.demandTaken_eq hfirst, State.demandSet, State.wakeUp_of_awake hawake]
    · by_cases hfirst : s.batt.band = .unrated
      · rw [hflat hfirst]
      · apply State.eq_of_blocks <;> simp [State.demandTaken_eq hfirst, State.demandSet]
        exact s.wakeUp_status

end Sys2Proof.Machine

end

section
/-! ## An outage onset -/

namespace Sys2Proof.Machine

/-! ### The charge switch examined (R131) -/

/-- The charge switch examined stands where its conditions put it (R131). -/
theorem State.examineCharge_closed (s : State) : s.examineCharge.batt.charge = .closed ↔ s.examineCharge.chargeCloses = true := by
  have hcloses : s.examineCharge.chargeCloses = s.chargeCloses :=
    State.chargeCloses_congr (by simp) (by simp) (by simp) (by simp)
  rw [hcloses]
  cases h : s.chargeCloses <;> simp [h]

/-- The carry request does not move the charge switch. -/
theorem State.examined_charge (s : State) : s.examineCharge.raiseCarry.batt.charge = .closed ↔ s.examineCharge.raiseCarry.chargeCloses = true := by
  have hcloses : s.examineCharge.raiseCarry.chargeCloses = s.examineCharge.chargeCloses :=
    State.chargeCloses_congr (by simp) (by simp) (by simp) (by simp [State.raiseCarry_test])
  rw [hcloses, (State.raiseCarry_frame _).2.2.2.2.2.2.2.2.2.1]
  exact s.examineCharge_closed

/-! ### An outage onset (R15, R147, R150, R162) -/

/-- The station at an outage onset, awake and its round timer armed, before the terminal interface is told. -/
def State.outageSet (s : State) : State :=
  State.mainsFailArming { s.wakeUp with supply := { s.wakeUp.supply with mains := .absent, onset := some s.wakeUp.clock } }

/-- The terminal interface told of the outage, before R139, R144 and R145 are applied (R143, R147). -/
def State.outageHeard (s : State) : State := { s.outageSet with term := { s.term with
  keepAlive := some (firstKeepAlive s.clock s.address)
  idleTimer := if s.term.mode = .active ∧ s.term.demand = .idle then some s.clock else s.term.idleTimer } }

/-- The terminal interface has answered the outage. -/
def State.outageAnswered (s : State) : State :=
  if s.batt.band = .unrated then { s.outageSet with term := { s.term with keepAlive := some (firstKeepAlive s.clock s.address) } }
  else s.outageHeard.terminalReacts

section
variable (s : State)

@[simp] theorem State.outageSet_frame : s.outageSet.clock = s.clock ∧ s.outageSet.pins = s.pins ∧ s.outageSet.peers = s.peers
    ∧ s.outageSet.supply = { s.wakeUp.supply with mains := .absent, onset := some s.clock } ∧ s.outageSet.share = s.share
    ∧ s.outageSet.demand = s.demand ∧ s.outageSet.line = s.wakeUp.line ∧ s.outageSet.conv = s.conv ∧ s.outageSet.batt = s.wakeUp.batt
    ∧ s.outageSet.term = s.term ∧ s.outageSet.test = s.test ∧ s.outageSet.status = s.wakeUp.status ∧ s.outageSet.pending = s.pending := by
  simp [State.outageSet]

@[simp] theorem State.address_wakeUp : s.wakeUp.address = s.address := by
  simp [State.address]

theorem State.outageSet_round : s.outageSet.round = { s.round with
    timer := if s.round.participation = .member ∧ s.round.tempo = .slow then s.round.timer.map (fun e =>
        min e (max s.clock (s.round.t0 + 700 * 3200) + 50 * 3200 + 2 * (s.address.val + 1) * 3200))
      else s.round.timer } := by
  have hround : s.wakeUp.round = s.round := by simp
  have hclock : s.wakeUp.clock = s.clock := by simp
  have hskew : State.skew { s.wakeUp with supply := { s.wakeUp.supply with mains := .absent, onset := some s.wakeUp.clock } }
      = 2 * (s.address.val + 1) * 3200 := by
    rw [State.skew_eq]
    simp [State.address]
  rw [State.outageSet, State.mainsFailArming_round, hskew]
  simp only [State.roundMoment, hround, hclock]
  rfl

theorem State.terminalMainsFail_eq : s.outageSet.terminalMainsFail = s.outageAnswered := by
  obtain ⟨hclock, -, -, -, -, -, -, -, -, hterm, -⟩ := s.outageSet_frame
  have haddress : s.outageSet.address = s.address := by simp [State.address]
  have hacting : s.outageSet.acting = decide (s.batt.band ≠ .unrated) := by simp [State.acting]
  unfold State.terminalMainsFail State.outageAnswered State.outageHeard
  dsimp only
  rw [hterm, hclock, haddress, hacting]
  by_cases hfirst : s.batt.band = .unrated <;> simp [hfirst]

@[simp] theorem State.outageAnswered_frame : s.outageAnswered.clock = s.clock ∧ s.outageAnswered.pins = s.pins
    ∧ s.outageAnswered.round = s.outageSet.round ∧ s.outageAnswered.peers = s.peers
    ∧ s.outageAnswered.supply = { s.wakeUp.supply with mains := .absent, onset := some s.clock } ∧ s.outageAnswered.share = s.share
    ∧ s.outageAnswered.demand = s.demand ∧ s.outageAnswered.line = s.wakeUp.line ∧ s.outageAnswered.conv = s.conv
    ∧ s.outageAnswered.batt = s.wakeUp.batt ∧ s.outageAnswered.status = s.wakeUp.status ∧ s.outageAnswered.pending = s.pending := by
  unfold State.outageAnswered State.outageHeard
  split <;> simp

theorem State.outageAnswered_address : s.outageAnswered.address = s.address := by simp [State.address]

theorem State.outageAnswered_interval : s.outageAnswered.testInterval = s.testInterval := by simp [State.testInterval]

theorem State.mainsFails_eq : s.mainsFails = (s.outageAnswered.setDue (firstDue s.clock s.address s.testInterval)).examineCharge.raiseCarry := by
  have hset : s.mainsFails = (s.outageSet.terminalMainsFail.setDue (firstDue s.outageSet.terminalMainsFail.clock
      s.outageSet.terminalMainsFail.address s.outageSet.terminalMainsFail.testInterval)).examineCharge.raiseCarry := rfl
  rw [hset, State.terminalMainsFail_eq, s.outageAnswered_frame.1, s.outageAnswered_address, s.outageAnswered_interval]

/-- What the terminal interface sees of an outage onset. -/
theorem State.outageHeard_sees : s.outageHeard.Sees s .absent s.batt.band s.share.feedGrant := by
  constructor <;> simp [State.outageHeard]

end

theorem State.terminalReacts_keepAlive (s : State) : s.terminalReacts.term.keepAlive = s.term.keepAlive := by
  unfold State.terminalReacts State.regateWake State.makeWake
  (repeat' split) <;> simp [State.enterBooting_keepAlive, State.powerTests_keepAlive]

/-- The first keep-alive time of an outage onset (R147). -/
theorem State.outageAnswered_keepAlive (s : State) : s.outageAnswered.term.keepAlive = some (firstKeepAlive s.clock s.address) := by
  unfold State.outageAnswered
  split
  · rfl
  · rw [State.terminalReacts_keepAlive]
    rfl

/-- Settles O15. -/
theorem mainsFailIsOutageOnset : Obligations.MainsFailIsOutageOnset := by
  refine ⟨fun l s hrun hnew => ?_, fun s hrun hmains hcandidate hstood => ?_⟩
  · rw [exec, execMainsSenseChange, whenRunning_of_running _ hrun, if_neg hnew]
  · have hexec : exec .mainsFail s = .next s.mainsFails.askSleep := by
      rw [exec, execMainsFail, whenRunning_of_running _ hrun]
      refine congrArg (Host.Outcome.next ∘ State.askSleep) (if_pos ?_)
      rw [State.mainsStood, Bool.and_eq_true, Bool.and_eq_true, decide_eq_true_eq, decide_eq_true_eq, decide_eq_true_eq]
      exact ⟨⟨hcandidate, by simp [hmains]⟩, hstood⟩
    have hterm : s.mainsFails.term = s.outageAnswered.term := by simp [State.mainsFails_eq]
    have hresults : s.mainsFails.test.results = s.outageAnswered.test.results := by simp [State.mainsFails_eq, State.raiseCarry_test]
    have hcheck : s.mainsFails.test.wakeCheck = s.outageAnswered.test.wakeCheck := by simp [State.mainsFails_eq, State.raiseCarry_test]
    have hround : s.mainsFails.round = s.outageSet.round := by simp [State.mainsFails_eq]
    have hsupply : s.mainsFails.supply = { s.wakeUp.supply with mains := .absent, onset := some s.clock } := by simp [State.mainsFails_eq]
    have hkeep : s.outageAnswered.term.keepAlive = some (s.clock + (60 + 15 * s.address.val) * 3200000) := by
      rw [State.outageAnswered_keepAlive, firstKeepAlive_eq]
    have htest : s.mainsFails.test.schedule = firstDue s.clock s.address s.testInterval ∧ s.mainsFails.test.due = false := by
      simp [State.mainsFails_eq, State.raiseCarry_test]
    refine ⟨_, hexec, by rw [hsupply], by rw [hsupply], ?_, by rw [hterm, hkeep], fun hfirst => ?_, fun hrated => ?_, ?_, htest.2, ?_, ?_, ?_, ?_, ?_⟩
    · rw [hsupply]
      exact s.wakeUp_supply.1
    · rw [hterm, State.outageAnswered, if_pos hfirst]
    · have hsees := s.outageHeard_sees
      have hanswer : s.outageAnswered = s.outageHeard.terminalReacts := if_neg hrated
      rw [hterm, hresults, hcheck, State.outageAnswered_keepAlive, hanswer]
      have htest' : s.outageHeard.test = s.test := by simp [State.outageHeard]
      have hpins : s.outageHeard.pins = s.pins := by simp [State.outageHeard]
      have hclock : s.outageHeard.clock = s.clock := by simp [State.outageHeard]
      intro grant cutoff forced
      refine ⟨fun hc => ?_, fun hf hnone => ?_, fun hpending hmode hready hfree hgate => ?_, fun hc hf hnone => ?_⟩
      · rw [State.terminalReacts_of_cutoff (hsees.cutoffNow.2 ⟨rfl, hc⟩)]
        exact ⟨rfl, congrArg (·.results) htest', fun hmark => if_pos hmark⟩
      · rw [State.terminalReacts_of_forced (hsees.forcedNow.2 ⟨rfl, hf⟩) hnone]
        rfl
      · rw [State.terminalReacts_of_gate (s := s.outageHeard) hpending (hsees.band ▸ hrated) hmode (htest' ▸ hfree) (hsees.wakeGate.2 (.inr hgate))
          (hpins ▸ hready)]
        refine ⟨by rw [hclock]; rfl, ?_⟩
        dsimp only
        rw [hsees.band, hsees.mode, htest']
      · rw [State.terminalReacts_of_neither (fun h => hc (hsees.cutoffNow.1 h).2) (fun h => hf (hsees.forcedNow.1 h).2) hnone]
        rfl
    · rw [htest.1, firstDue_eq]
    · rw [hround, State.outageSet_round]
    · rw [hround, State.outageSet_round]
    · rw [State.mainsFails_eq]
      exact State.examined_charge _
    · intro hawake
      have hsame := State.wakeUp_of_awake hawake
      simp [State.mainsFails_eq, hsame]
    · apply State.eq_of_blocks <;> simp [State.mainsFails_eq]
      exact s.wakeUp_status

end Sys2Proof.Machine

end

section
/-! ## The return of mains -/

namespace Sys2Proof.Machine

/-! ### The return of mains (R113, R146, R150, R156, R162) -/

section
variable {s : State}

/-- With mains PRESENT no test of an outage concerns the terminal (R144, R145). -/
theorem State.powerTests_of_present (h : s.supply.mains = .present) : s.powerTests = s :=
  State.powerTests_of_neither (fun ⟨hout, _⟩ => by simp [h] at hout) (fun ⟨hout, _⟩ => by simp [h] at hout)

/-- A boot begun with mains PRESENT starts no idle timer, whether the ready line is asserted or not (R140, R143). -/
theorem State.enterBooting_of_present (h : s.supply.mains = .present) : s.enterBooting.term.idleTimer = none
    ∧ s.enterBooting.term.wakePending = s.term.wakePending ∧ s.enterBooting.term.deferredHold = s.term.deferredHold := by
  have hup (u : State) (began : Time) (hu : u.supply.mains = .present) : (u.enterActive began).term.idleTimer = none
      ∧ (u.enterActive began).term.wakePending = u.term.wakePending ∧ (u.enterActive began).term.deferredHold = u.term.deferredHold := by
    obtain ⟨hterm, -⟩ := u.cameUp_sees began
    rw [State.enterActive_eq, State.powerTests_of_present (by simpa using hu), hterm]
    exact ⟨if_neg fun ⟨hout, _⟩ => by simp [hu] at hout, rfl, rfl⟩
  unfold State.enterBooting State.bootReady
  dsimp only
  split
  · exact hup _ _ h
  · exact ⟨rfl, rfl, rfl⟩

/-- A test that ends at a terminal with no wake pending and no hold deferred leaves it as it is (R143, R148). -/
theorem State.endTest_of_settled (hnone : s.term.wakePending = false) (hdeferred : s.term.deferredHold = false) :
    s.endTest.term = s.term := by
  obtain ⟨-, -, -, -, -, hterm, -, -⟩ := s.testCleared_frame
  rw [State.endTest_eq, State.terminalTestEnded, if_neg (by simp [hterm, hdeferred]), State.regateWake_of_none (by simp [hterm, hnone])]
  dsimp only
  rw [hterm, ← hdeferred]

theorem State.abortTestDue_of_settled (v : Verdict) (d : Option Time) (hnone : s.term.wakePending = false)
    (hdeferred : s.term.deferredHold = false) : (s.abortTestDue v d).term = s.term := by
  unfold State.abortTestDue
  split
  · rfl
  · simp [State.endTest_of_settled hnone hdeferred]

theorem State.abortTestDue_keepAlive (v : Verdict) (d : Option Time) : (s.abortTestDue v d).term.keepAlive = s.term.keepAlive := by
  have hregated (u : State) : u.regateWake.term.keepAlive = u.term.keepAlive := by
    unfold State.regateWake State.makeWake
    (repeat' split) <;> simp [State.enterBooting_keepAlive]
  unfold State.abortTestDue
  split
  · rfl
  · have hterm := s.testCleared_frame.2.2.2.2.2.1
    simp only [State.setDue_frame, State.addResult_frame, State.endTest_eq, State.terminalTestEnded, hregated]
    split <;> simp [hterm]

end

/-- The station with mains PRESENT again, awake, before a block is told. -/
def State.mainsBack (s : State) : State := { s.wakeUp with supply := { s.wakeUp.supply with mains := .present } }

/-- The station with its terminal told of the return of mains (R146). -/
def State.terminalBack (s : State) : State := s.mainsBack.terminalMainsReturn

section
variable (s : State)

theorem State.mainsReturns_eq : s.mainsReturns = s.terminalBack.testMainsReturn.converterMainsReturn.examineCharge := rfl

@[simp] theorem State.terminalBack_frame : s.terminalBack.clock = s.clock ∧ s.terminalBack.pins = s.pins ∧ s.terminalBack.round = s.round
    ∧ s.terminalBack.supply = { s.wakeUp.supply with mains := .present } ∧ s.terminalBack.conv = s.conv
    ∧ s.terminalBack.batt = s.wakeUp.batt ∧ s.terminalBack.test.context = s.test.context ∧ s.terminalBack.peers = s.peers
    ∧ s.terminalBack.share = s.share ∧ s.terminalBack.demand = s.demand ∧ s.terminalBack.line = s.wakeUp.line
    ∧ s.terminalBack.status = s.wakeUp.status ∧ s.terminalBack.pending = s.pending := by
  simp [State.terminalBack, State.mainsBack]

/-- The keep-alive schedule is dropped, and a terminal that acts keeps no idle timer, pending wake or deferred hold (R146). -/
theorem State.terminalBack_term : s.terminalBack.term.keepAlive = none ∧ (s.batt.band ≠ .unrated → s.terminalBack.term.idleTimer = none
    ∧ s.terminalBack.term.wakePending = false ∧ s.terminalBack.term.deferredHold = false) := by
  have hboots (u : State) (hu : u.supply.mains = .present) (hkeep : u.term.keepAlive = none) (hnone : u.term.wakePending = false)
      (hdeferred : u.term.deferredHold = false) : u.enterBooting.term.keepAlive = none ∧ (s.batt.band ≠ .unrated →
        u.enterBooting.term.idleTimer = none ∧ u.enterBooting.term.wakePending = false ∧ u.enterBooting.term.deferredHold = false) := by
    obtain ⟨hidle, hwake, hhold⟩ := State.enterBooting_of_present hu
    exact ⟨by rw [State.enterBooting_keepAlive, hkeep], fun _ => ⟨hidle, by rw [hwake, hnone], by rw [hhold, hdeferred]⟩⟩
  have hacting : s.mainsBack.acting = decide (s.batt.band ≠ .unrated) := by simp [State.acting, State.mainsBack]
  unfold State.terminalBack State.terminalMainsReturn
  rw [hacting]
  split
  · dsimp only
    split
    · exact hboots _ rfl rfl rfl rfl
    · exact hboots _ rfl rfl rfl rfl
    · split
      · exact hboots _ rfl rfl rfl rfl
      · exact hboots _ rfl rfl rfl rfl
      · exact hboots _ rfl rfl rfl rfl
      · exact ⟨rfl, fun _ => ⟨rfl, rfl, rfl⟩⟩
    · exact ⟨rfl, fun _ => ⟨rfl, rfl, rfl⟩⟩
    · exact ⟨rfl, fun _ => ⟨rfl, rfl, rfl⟩⟩
  next hunrated => exact ⟨rfl, fun hrated => absurd hrated (by simpa using hunrated)⟩

/-- A boot without an asserted ready line writes no record and begins now (R135, R140). -/
theorem State.enterBooting_of_not_ready {s : State} (hready : s.pins.ready = false) : s.enterBooting = { s with term := { s.term with
    mode := .booting, bootTimer := some s.clock, idleTimer := none, retryWait := none } } :=
  State.bootReady_of_not_ready hready

/-- A terminal in HOLD, FAULT or OFF that acts boots, without a record (R146). -/
theorem State.terminalBack_boots (hready : s.pins.ready = false) : s.terminalBack.test.results = s.test.results
    ∧ (s.batt.band ≠ .unrated → (s.term.mode = .hold ∨ s.term.mode = .fault ∨ (s.term.mode = .off ∧ s.term.offReason ≠ .start)) →
        s.terminalBack.term.mode = .booting ∧ s.terminalBack.term.bootTimer = some s.clock
          ∧ s.terminalBack.term.retryCount = (if s.term.mode = .off ∧ s.term.offReason = .retry then s.term.retryCount else 0)) := by
  have hterm : s.mainsBack.term = s.term := by simp [State.mainsBack]
  have htest : s.mainsBack.test = s.test := by simp [State.mainsBack]
  have hclock : s.mainsBack.clock = s.clock := by simp [State.mainsBack]
  have hpins : s.mainsBack.pins.ready = false := by simp [State.mainsBack, hready]
  have hacting : s.mainsBack.acting = decide (s.batt.band ≠ .unrated) := by simp [State.acting, State.mainsBack]
  unfold State.terminalBack State.terminalMainsReturn
  rw [hacting, hterm]
  by_cases hfirst : s.batt.band = .unrated
  · simp [hfirst, htest]
  · cases hmode : s.term.mode <;> cases hreason : s.term.offReason <;>
      simp [hfirst, htest, hclock, State.enterBooting_of_not_ready, hpins]

end

/-- IDLE is entered with the fault history cleared and everything off (R113, R114). -/
theorem State.enterIdle_conv (s : State) : s.enterIdle.conv.mode = .idle ∧ s.enterIdle.conv.latchMark = false
    ∧ s.enterIdle.conv.latchCount = 0 ∧ s.enterIdle.conv.peakRun = 0 ∧ s.enterIdle.conv.feedSetpoint = 0
    ∧ s.enterIdle.conv.chargeSetpoint = 0 ∧ s.enterIdle.conv.gateHigh = false ∧ s.enterIdle.conv.gateLow = false := by
  obtain ⟨hmode, hhigh, hlow, hfeed, hcharge, -⟩ := s.converterStops_conv .idle
  exact ⟨hmode, rfl, rfl, rfl, hfeed, hcharge, hhigh, hlow⟩

section
variable {s : State}

theorem State.converterMainsReturn_stops (h : s.conv.mode = .run ∨ s.conv.mode = .held ∨ s.conv.mode = .riserAbsent) :
    s.converterMainsReturn.conv.latchMark = false ∧ s.converterMainsReturn.conv.latchCount = 0
      ∧ s.converterMainsReturn.conv.peakRun = 0 ∧ s.converterMainsReturn.conv.feedSetpoint = 0
      ∧ s.converterMainsReturn.conv.chargeSetpoint = 0 ∧ s.converterMainsReturn.conv.gateHigh = false
      ∧ s.converterMainsReturn.conv.gateLow = false := by
  have hidle : s.converterMainsReturn = s.enterIdle := by
    rcases h with h | h | h <;> rw [State.converterMainsReturn, h]
  rw [hidle]
  exact s.enterIdle_conv.2

theorem State.converterMainsReturn_of_stopped (h : s.conv.mode = .idle ∨ s.conv.mode = .disabled) : s.converterMainsReturn = s := by
  rcases h with h | h <;> rw [State.converterMainsReturn, h]

theorem State.converterMainsReturn_mode : s.converterMainsReturn.conv.mode = if s.conv.mode = .disabled then .disabled else .idle := by
  have hidle := s.enterIdle_conv.1
  unfold State.converterMainsReturn
  cases h : s.conv.mode <;> simp [h, hidle]

end

/-- Settles O16. -/
theorem mainsReturnEndsOutage : Obligations.MainsReturnEndsOutage := by
  intro s hrun hmains hcandidate hstood
  have hexec : exec .mainsReturn s = .next s.mainsReturns.askSleep := by
    rw [exec, execMainsReturn, whenRunning_of_running _ hrun]
    refine congrArg (Host.Outcome.next ∘ State.askSleep) (if_pos ?_)
    rw [State.mainsStood, Bool.and_eq_true, Bool.and_eq_true, decide_eq_true_eq, decide_eq_true_eq, decide_eq_true_eq]
    exact ⟨⟨hcandidate, by simp [hmains]⟩, hstood⟩
  obtain ⟨hkeep, hsettled⟩ := s.terminalBack_term
  have hterm : s.mainsReturns.term = (s.terminalBack.abortTestDue .aborted none).term := by simp [State.mainsReturns_eq, State.testMainsReturn]
  have htest : s.mainsReturns.test = { (s.terminalBack.abortTestDue .aborted none).test with
      schedule := none, due := false, carry := false, carryCount := 0 } := by simp [State.mainsReturns_eq, State.testMainsReturn]
  have hconv : s.mainsReturns.conv = s.terminalBack.testMainsReturn.converterMainsReturn.conv := by simp [State.mainsReturns_eq]
  have hconv' : s.terminalBack.testMainsReturn.conv = s.conv := by simp
  have hsupply : s.mainsReturns.supply = { s.wakeUp.supply with mains := .present } := by simp [State.mainsReturns_eq]
  have hsame (hrated : s.batt.band ≠ .unrated) : s.mainsReturns.term = s.terminalBack.term := by
    obtain ⟨-, hnone, hdeferred⟩ := hsettled hrated
    rw [hterm, State.abortTestDue_of_settled _ _ hnone hdeferred]
  refine ⟨_, hexec, by rw [hsupply], ?_, by rw [hterm, State.abortTestDue_keepAlive, hkeep], by rw [htest], by rw [htest], by rw [htest],
    by rw [htest], ?_, fun c hc => ?_, fun hfree hready => ?_, ?_, fun hmodes => ?_, fun hmodes => ?_, fun hrated => ?_,
    fun hrated hready hmodes => ?_, ?_, fun hawake => ?_, ?_⟩
  · rw [hsupply]
    exact s.wakeUp_supply.1
  · rw [htest]
    exact State.abortTestDue_context _ _ _
  · have hcontext : s.terminalBack.test.context = some c := by simp [hc]
    rw [htest, State.abortTestDue, hcontext]
    simp
  · rw [htest, State.abortTestDue, show s.terminalBack.test.context = none by simp [hfree]]
    exact (s.terminalBack_boots hready).1
  · rw [hconv, State.converterMainsReturn_mode, hconv']
  · rw [hconv]
    exact State.converterMainsReturn_stops (by rwa [hconv'])
  · rw [hconv, State.converterMainsReturn_of_stopped (by rwa [hconv']), hconv']
  · rw [hsame hrated]
    exact hsettled hrated
  · rw [hsame hrated]
    exact (s.terminalBack_boots hready).2 hrated hmodes
  · exact State.examineCharge_closed _
  · simp [State.mainsReturns_eq, State.wakeUp_of_awake hawake]
  · apply State.eq_of_blocks <;> simp [State.mainsReturns_eq]
    exact s.wakeUp_status

end Sys2Proof.Machine

end

section
/-! ## The close event -/

namespace Sys2Proof.Machine

/-! ### The view and its masks (R33 to R38) -/

/-- What a slot brings into the view, heard or held (R33). -/
theorem Slot.claim_eq (a : Addr) (x : Slot) : x.claim a
    = if x.heard ∨ 0 < x.holdover then some { addr := a, cls := x.cls, request := x.request, heard := x.heard } else none := by
  unfold Slot.claim
  cases x.heard <;> simp

/-- An address is held exactly if the view holds a claim of it that was not heard (R36). -/
theorem maskHas_heldMask (view : List Claim) (a : Addr) :
    maskHas (heldMask view) a = true ↔ ∃ c ∈ view, c.addr = a ∧ c.heard = false := by
  have hfold (m : BitVec 64) : maskHas (view.foldl (fun m c => if c.heard then m else maskSet m c.addr) m) a = true
      ↔ maskHas m a = true ∨ ∃ c ∈ view, c.addr = a ∧ c.heard = false := by
    induction view generalizing m with
    | nil => simp
    | cons c view ih =>
      rw [List.foldl_cons, ih]
      cases hc : c.heard <;> simp [hc, or_assoc, or_left_comm]
  rw [heldMask, hfold, maskHas_zero]
  simp

/-- After the close event an address is present exactly if a record of it is left (R35, R36). -/
theorem maskHas_settled (l : List (Addr × PeerRecord)) (a : Addr) :
    maskHas (presentMask (settleRecords l)) a = true ↔ ∃ e ∈ settleRecords l, e.1 = a := by
  rw [maskHas_presentMask, List.any_eq_true]
  refine exists_congr fun e => and_congr_right fun he => ?_
  have hoccupied : e.2.occupied = true := (List.mem_filter.1 he).2
  simp [hoccupied]

/-- The budget used is the least estimate that counts, 0 with none (R38). -/
theorem PeerState.budget_least (p : PeerState) (own : Nat) : (p.estimates own = [] → p.budget own = 0)
    ∧ (p.estimates own ≠ [] → p.budget own ∈ p.estimates own ∧ ∀ e ∈ p.estimates own, p.budget own ≤ e) := by
  unfold PeerState.budget
  cases hl : p.estimates own with
  | nil => simp
  | cons e es =>
    refine ⟨fun h => by simp at h, fun _ => ?_⟩
    exact List.min?_eq_some_iff.1 List.min?_cons'

/-! ### The start of the share computation (R40, R48) -/

section
variable {s : State} {budget : Nat}

theorem State.startShare_of_whole (h : needsRecip s.peers.view budget = false) :
    (s.startShare budget).share.stage = s.share.stage ∧ (s.startShare budget).share.waiting = s.share.waiting := by
  simp [State.startShare, h]

/-- A fill with a partial class asks for the reciprocal stage (R48, log 57). -/
theorem State.startShare_asks (h : needsRecip s.peers.view budget = true) (hwaiting : s.share.waiting = none) :
    (s.share.stage = none → (s.startShare budget).share.stage = some .share ∧ (s.startShare budget).share.waiting = none)
      ∧ (s.share.stage = some .test → s.share.stageTaken = some s.clock →
          (s.startShare budget).share.stage = some .share ∧ (s.startShare budget).share.waiting = some .test)
      ∧ (s.share.stage = some .test → s.share.stageTaken ≠ some s.clock →
          (s.startShare budget).share.stage = some .test ∧ (s.startShare budget).share.waiting = some .share) := by
  refine ⟨fun hstage => ?_, fun hstage htaken => ?_, fun hstage htaken => ?_⟩
  · simp [State.startShare, h, hwaiting, hstage, ShareState.askStage]
  · simp [State.startShare, h, hwaiting, hstage, htaken, ShareState.askStage]
  · simp [State.startShare, h, hwaiting, hstage, htaken, ShareState.askStage]

end

/-- A station at its close event, before the share computation starts (R12). -/
def State.closing (s : State) : State := { s with
  line := s.line.dropNotices
  peers := s.peers.assemble
  round := { s.round with closePending := false, viewOutage := outageSeen s.peers.records }
  demand := { s.demand with claimsOpen := false } }

theorem State.closeRound_stage (s : State) : s.closeRound.share = (s.closing.startShare (s.peers.budget s.ownEstimate)).share := by
  have hclose : s.closeRound = (s.closing.startShare (s.peers.budget s.ownEstimate)).retarget := rfl
  rw [hclose]
  simp

/-- The view outage mark: a record in an outage that brings a claim (R3, R35). -/
theorem outageSeen_iff (l : List (Addr × PeerRecord)) :
    outageSeen l = true ↔ ∃ e ∈ l, e.2.outage = .absent ∧ recordClaims e.1 e.2 ≠ [] := by
  simp [outageSeen]

/-- Settles O23. -/
theorem closeEventAssemblesView : Obligations.CloseEventAssemblesView := by
  intro s hrun hpending hmissed hjoined htime hfree claim kept claims own counted
  have hclaims (e : Addr × PeerRecord) : recordClaims e.1 e.2 = claims e := by
    simp only [recordClaims, claims, claim, ← Slot.claim_eq]
  have hexec : exec .closeEvent s = .next s.closeRound.askSleep := by
    rw [exec, execCloseEvent, whenRunning_of_running _ hrun]
    refine congrArg (Host.Outcome.next ∘ State.askSleep) (if_pos ?_)
    have hdue : s.closeDue = true := s.closeDue_iff.2 ⟨hpending, hmissed, hjoined, htime⟩
    rw [hdue, Bool.true_and, LineState.frameInProgress]
    rcases hfree with hstuck | ⟨hframe, herror⟩
    · simp [hstuck]
    · simp [hframe, herror]
  have hline : s.closeRound.line = s.line.dropNotices := s.closeRound_line
  rw [LineState.dropNotices_eq] at hline
  have hpeers := s.closeRound_peers
  have hview : s.closeRound.peers.view = assembleView s.peers.records := by rw [hpeers]; rfl
  obtain ⟨hbudget, hflight, hfeed, hcharge, hfeed', hcharge'⟩ := s.closeRound_share
  have hcounted : s.peers.estimates s.ownEstimate = counted := by
    have hown : s.ownEstimate = own := by
      unfold State.ownEstimate
      simp only [own]
      cases s.demand.claims <;> rfl
    rw [hown]
    rfl
  have hleast := s.peers.budget_least s.ownEstimate
  rw [hcounted, ← hbudget] at hleast
  refine ⟨_, hexec, by rw [hline], by rw [hline], ?_, ?_, by rw [hpeers]; rfl, fun a => ⟨?_, ?_⟩, hleast.1, hleast.2, hflight, hfeed, hcharge, hfeed', hcharge',
    fun hwhole => ?_, fun hpart hwaiting => ?_, by rw [s.closeRound_round], ?_, s.closeRound_demand, ?_⟩
  · rw [hview, assembleView]
    simp only [hclaims]
  · rw [hpeers]
    rfl
  · rw [hpeers]
    exact maskHas_settled _ _
  · rw [hpeers]
    exact maskHas_heldMask _ _
  · rw [hpeers, hbudget] at hwhole
    rw [s.closeRound_stage]
    exact State.startShare_of_whole (s := s.closing) hwhole
  · rw [hpeers, hbudget] at hpart
    rw [s.closeRound_stage]
    exact State.startShare_asks (s := s.closing) hpart hwaiting
  · rw [s.closeRound_round, outageSeen_iff]
    simp only [hclaims]
  · apply State.eq_of_blocks <;> simp

end Sys2Proof.Machine

end

section
/-! ## A valid notice -/

namespace Sys2Proof.Machine

/-! ### Frames that complete (R83, R86, R87, R100) -/

/-- Counts that leave the station on the line change the confinement state and the extra wait alone (R101, R102). -/
theorem LineState.reread_of_kept {l : LineState} (h : l.confinement = .offline ∨ confinementOf l.txErrors l.rxErrors ≠ .offline) :
    l.reread = { l with confinement := l.reread.confinement, extraWait := l.reread.extraWait } := by
  unfold LineState.reread
  split
  · rfl
  next hon =>
    split
    next hoff => exact absurd hoff (h.resolve_left hon)
    · rfl
    · rfl

theorem confinementOf_not_offline {tx rx : Nat} : confinementOf tx rx ≠ .offline ↔ tx < 160 := by
  unfold confinementOf
  split
  · simp; omega
  · split <;> simp <;> omega

section
variable {s : State} (hagrees : ConfinementAgrees s)

include hagrees

/-- Falling counts take no station off the line (R100, R101). -/
theorem ConfinementAgrees.ended : s.line.ended.confinement = .offline
    ∨ confinementOf s.line.ended.txErrors s.line.ended.rxErrors ≠ .offline := by
  by_cases hoff : s.line.confinement = .offline
  · exact .inl hoff
  · have hlow : s.line.txErrors < 160 := confinementOf_not_offline.1 (hagrees hoff ▸ hoff)
    refine .inr (confinementOf_not_offline.2 ?_)
    have hle : s.line.ended.txErrors ≤ s.line.txErrors := by
      unfold LineState.ended
      dsimp only
      split <;> omega
    omega

/-- A frame that completes changes the line controller and the last valid completion (R83, R100). -/
theorem ConfinementAgrees.completeFrame : s.completeFrame = { s with
    round := { s.round with lastValid := some s.clock }, line := s.line.ended.reread } := by
  have hkeeps (u : State) (hu : u.line.confinement = .offline ∨ confinementOf u.line.txErrors u.line.rxErrors ≠ .offline) :
      u.readConfinement = { u with line := u.readConfinement.line } := by
    unfold State.readConfinement
    split
    · rfl
    next hon =>
      split
      next hoff => exact absurd hoff (hu.resolve_left hon)
      · rfl
      · rfl
  have hended : s.completeFrame = State.readConfinement { s with
      round := { s.round with lastValid := some s.clock }, line := s.line.ended } := by
    unfold State.completeFrame State.countValid LineState.ended
    by_cases hown : s.line.role = .transmitter <;> simp [hown]
  rw [hended, hkeeps _ hagrees.ended]
  simp

/-- The line controller of a frame that has completed. -/
theorem ConfinementAgrees.ended_line : s.line.ended.reread.phase = .gap ∧ s.line.ended.reread.role = .none
    ∧ s.line.ended.reread.queue = (if s.line.role = .transmitter then s.line.queue.tail else s.line.queue)
    ∧ s.line.ended.reread.unheard = (if s.line.role = .transmitter ∧ s.line.ackSampled = .recessive then min 255 (s.line.unheard + 1)
        else s.line.unheard)
    ∧ s.line.ended.reread.txErrors = (if s.line.role = .transmitter then s.line.txErrors - 1 else s.line.txErrors)
    ∧ s.line.ended.reread.rxErrors = (if s.line.role = .transmitter then s.line.rxErrors else s.line.rxErrors - 1) := by
  rw [LineState.reread_of_kept hagrees.ended]
  simp [LineState.ended, sat255, Nat.min_comm]

end

/-! ### The end of a frame at the moment of its completion (R6, R12) -/

/-- A round timer that waited for a valid frame is suppressed by it: the line controller is that of the close event alone (R6). -/
theorem State.frameEnded_line_of_suppressed {s : State} (h : s.suppressed = true) : s.frameEnded.line = s.closedIfDue.line := by
  have hsame : s.closedIfDue.suppressed = true := by rw [← h]; simp [State.suppressed]
  rw [State.frameEnded_line]
  split
  · rw [State.handleExpiry, if_pos hsame]
    rfl
  · rfl

theorem State.suppressed_of_now {s : State} (h : s.round.lastValid = some s.clock) : s.suppressed = true := by
  simp [State.suppressed, h]

/-- A record just written, with the mask entries of its address and of every other (R27 to R31, R36). -/
theorem PeerState.record_frame (p : PeerState) (n : Notice) (tag : Option (BitVec 8)) :
    (∀ a, a ≠ n.addr → findRecord a (p.record n tag).records = findRecord a p.records
        ∧ maskHas (p.record n tag).heard a = maskHas p.heard a ∧ maskHas (p.record n tag).present a = maskHas p.present a)
      ∧ maskHas (p.record n tag).heard n.addr = true
      ∧ findRecord n.addr (p.record n tag).records = some (((findRecord n.addr p.records).getD {}).recorded n tag)
      ∧ maskHas (p.record n tag).present n.addr = (((findRecord n.addr p.records).getD {}).recorded n tag).occupied := by
  refine ⟨fun a ha => ⟨?_, ?_, ?_⟩, ?_, ?_, ?_⟩
  · exact findRecord_putRecord_of_ne _ _ _ _ ha
  · simp [PeerState.record, Ne.symm ha]
  · unfold PeerState.record
    dsimp only
    split <;> simp [Ne.symm ha]
  · simp [PeerState.record]
  · exact findRecord_putRecord_self _ _ _
  · unfold PeerState.record
    dsimp only
    split <;> simp_all

theorem PeerRecord.recorded_frame (r : PeerRecord) (n : Notice) (tag : Option (BitVec 8)) : (r.recorded n tag).estimate = n.estimate.toNat
    ∧ (r.recorded n tag).outage = n.outage ∧ (r.recorded n tag).lastHeard = tag
    ∧ (isChargeClass n.cls = true → (r.recorded n tag).feed = r.feed
        ∧ (r.recorded n tag).charge = if n.request = 0 then none else some (slotOf n))
    ∧ (isChargeClass n.cls = false → (r.recorded n tag).charge = r.charge ∧ (r.recorded n tag).feed = some (slotOf n)) := by
  unfold PeerRecord.recorded
  cases isChargeClass n.cls <;> simp

/-- A field of a record, or of an address without one. -/
theorem getD_field {α β : Type} (o : Option α) (f : α → Option β) {d : α} (hd : f d = none) : f (o.getD d) = o.bind f := by
  cases o <;> simp [hd]

/-- The station with a valid notice in its peer table, what waited for the frame's end still to come (R26). -/
def State.noticeTaken (s : State) (n : Notice) : State :=
  State.retarget { s with
    round := { s.round with lastValid := some s.clock }
    peers := s.peers.record n s.heardTag
    line := s.line.ended.reread }

theorem ConfinementAgrees.noticeCompletes {s : State} (hagrees : ConfinementAgrees s) {n : Notice}
    (hmine : s.line.role = .transmitter ∨ n.addr ≠ s.address) : s.noticeCompletes n = (s.noticeTaken n).frameEnded := by
  have haddress : s.completeFrame.address = s.address := by simp [State.address]
  have hother : (!decide (s.line.role = .transmitter) && decide (n.addr = s.completeFrame.address)) = false := by
    rw [haddress]
    rcases hmine with h | h <;> simp [h]
  unfold State.noticeCompletes
  dsimp only
  rw [hother, if_neg (by simp), hagrees.completeFrame]
  rfl

section
variable (s : State) (n : Notice)

@[simp] theorem State.noticeTaken_frame : (s.noticeTaken n).clock = s.clock ∧ (s.noticeTaken n).supply = s.supply
    ∧ (s.noticeTaken n).pins = s.pins ∧ (s.noticeTaken n).round = { s.round with lastValid := some s.clock }
    ∧ (s.noticeTaken n).peers = s.peers.record n s.heardTag ∧ (s.noticeTaken n).share = s.share ∧ (s.noticeTaken n).demand = s.demand
    ∧ (s.noticeTaken n).line = s.line.ended.reread ∧ (s.noticeTaken n).term = s.term ∧ (s.noticeTaken n).test = s.test
    ∧ (s.noticeTaken n).status = s.status ∧ (s.noticeTaken n).pending = s.pending := by
  simp [State.noticeTaken]

theorem State.noticeTaken_closeDue : (s.noticeTaken n).closeDue = s.closeDue := by
  rw [Bool.eq_iff_iff, State.closeDue_iff, State.closeDue_iff]
  simp

theorem State.noticeTaken_timerExpired : (s.noticeTaken n).timerExpired = s.timerExpired := by
  simp [State.timerExpired]

theorem State.noticeTaken_suppressed : (s.noticeTaken n).suppressed = true := State.suppressed_of_now (by simp)

end

/-- Settles O20. -/
theorem noticeIsRecorded : Obligations.NoticeIsRecorded := by
  intro n s hrun hfinished hmine hagrees left
  have hexec : exec (.notice n) s = .next (s.noticeTaken n).frameEnded.askSleep := by
    rw [exec, execNotice, whenRunning_of_running _ hrun, if_pos hfinished, hagrees.noticeCompletes hmine]
  have hdue := s.noticeTaken_closeDue n
  have hline : (s.noticeTaken n).frameEnded.line = if s.closeDue then s.line.ended.reread.dropNotices else s.line.ended.reread := by
    rw [State.frameEnded_line_of_suppressed (s.noticeTaken_suppressed n), State.closedIfDue_line, hdue]
    simp
  have hround := (s.noticeTaken n).frameEnded_round
  rw [hdue, s.noticeTaken_timerExpired n, s.noticeTaken_suppressed n, State.skew_eq] at hround
  have hpeers := (s.noticeTaken n).frameEnded_peers
  rw [hdue] at hpeers
  obtain ⟨hphase, hrole, hqueue, hunheard, htx, hrx⟩ := hagrees.ended_line
  have hsame {α : Type} (f : LineState → α) (hf : ∀ l : LineState, f l.dropNotices = f l) :
      f (s.noticeTaken n).frameEnded.line = f s.line.ended.reread := by
    rw [hline]
    split
    · exact hf _
    · rfl
  have hdrop (l : LineState) := l.dropNotices_eq
  refine ⟨_, hexec, by rw [hround]; simp, ?_, ?_, ?_, ?_, ?_, by rw [hround]; simp, ?_, fun hnot => ?_, fun hcloses => ?_⟩
  · rw [hsame LineState.phase fun l => by rw [hdrop], hphase]
  · rw [hsame LineState.role fun l => by rw [hdrop], hrole]
  · rw [hsame LineState.txErrors fun l => by rw [hdrop], htx]
  · rw [hsame LineState.rxErrors fun l => by rw [hdrop], hrx]
  · rw [hsame LineState.unheard fun l => by rw [hdrop], hunheard]
  · obtain ⟨hclock, hsupply, -, htaken, -⟩ := s.noticeTaken_frame n
    rw [hround, State.address, hclock, hsupply, htaken]
    rfl
  · rw [hnot, if_neg (by simp)] at hpeers hline
    have hpeers' : (s.noticeTaken n).frameEnded.peers = s.peers.record n s.heardTag := by rw [hpeers]; simp
    obtain ⟨hothers, hheard, hfound, hpresent⟩ := s.peers.record_frame n s.heardTag
    obtain ⟨hestimate, houtage, htag, hchargeNotice, hfeedNotice⟩ :=
      ((findRecord n.addr s.peers.records).getD {}).recorded_frame n s.heardTag
    rw [hpeers', hline]
    refine ⟨⟨_, hfound, hestimate, houtage, htag.trans ?_, fun hc => ?_, fun hc => ?_, hpresent⟩, hothers, hheard, hqueue, rfl, rfl, ?_⟩
    · simp [State.heardTag, and_assoc]
    · obtain ⟨hfeed, hcharge⟩ := hchargeNotice hc
      refine ⟨hfeed.trans (getD_field _ _ rfl), hcharge.trans ?_⟩
      have hcls : n.cls ≠ .standby := by
        rintro h
        simp [h, isChargeClass] at hc
      simp [slotOf, hcls]
    · obtain ⟨hcharge, hfeed⟩ := hfeedNotice hc
      exact ⟨hcharge.trans (getD_field _ _ rfl), hfeed⟩
    · have hends := (s.noticeTaken n).frameEnded_of_not_due (by rw [hdue, hnot])
      have hshare : (s.noticeTaken n).frameEnded.share = s.share := (congrArg State.share hends).trans (by simp)
      have hdemand : (s.noticeTaken n).frameEnded.demand = s.demand := (congrArg State.demand hends).trans (by simp)
      apply State.eq_of_blocks <;> simp [hline, hshare, hdemand, hdue, hnot]
  · rw [hcloses, if_pos rfl] at hpeers hline
    refine ⟨?_, ?_, ?_, ?_⟩
    · rw [hpeers]
      simp [PeerState.assemble]
    · rw [hround, hcloses]
      simp
    · rw [hline, hdrop, hqueue]
    · apply State.eq_of_blocks <;> simp

end Sys2Proof.Machine

end

section
/-! ## An address clash -/

namespace Sys2Proof.Machine

/-! ### An address clash (R19) -/

/-- A frame of the station's own address that it did not transmit completes. -/
def State.HearsClash (s : State) (c : Instr) : Prop :=
  (∃ o : Opening, c = .openingFrame o ∧ s.line.finished = some (.opening o) ∧ o.addr = s.address)
    ∨ ∃ n : Notice, c = .notice n ∧ s.line.finished = some (.notice n) ∧ n.addr = s.address

theorem exec_clash {s : State} {c : Instr} (hrun : s.supply.power = .running) (hrole : s.line.role ≠ .transmitter) (h : s.HearsClash c) :
    exec c s = .next s.completeFrame.clash.askSleep := by
  have haddress : s.completeFrame.address = s.address := by simp [State.address]
  rcases h with ⟨o, rfl, hfinished, hown⟩ | ⟨n, rfl, hfinished, hown⟩
  · rw [exec, execOpeningFrame, whenRunning_of_running _ hrun, if_pos hfinished]
    exact congrArg (Host.Outcome.next ∘ State.askSleep) (if_pos (by simp [hrole, hown, haddress]))
  · rw [exec, execNotice, whenRunning_of_running _ hrun, if_pos hfinished]
    exact congrArg (Host.Outcome.next ∘ State.askSleep) (if_pos (by simp [hrole, hown, haddress]))

/-- No record has an address that the records do not bear. -/
theorem findRecord_eq_none {a : Addr} {l : List (Addr × PeerRecord)} (h : ∀ e ∈ l, e.1 ≠ a) : findRecord a l = none := by
  cases hfound : findRecord a l with
  | none => rfl
  | some r => exact absurd rfl (h _ (mem_findRecord hfound))

theorem not_mem_removeRecord (a : Addr) (l : List (Addr × PeerRecord)) : ∀ e ∈ removeRecord a l, e.1 ≠ a := by
  simp [removeRecord]

/-- A station that is MUTED expires no round timer, and the end of a frame is its close event alone (R6, R19). -/
theorem State.frameEnded_of_muted {s : State} (h : s.round.participation = .muted) : s.frameEnded = s.closedIfDue := by
  rw [State.frameEnded_eq, if_neg]
  simp [State.timerExpired, h]

@[simp] theorem State.closedIfDue_frame (s : State) : s.closedIfDue.pins = s.pins ∧ s.closedIfDue.test = s.test
    ∧ s.closedIfDue.status = s.status ∧ s.closedIfDue.pending = s.pending ∧ s.closedIfDue.term = s.term := by
  unfold State.closedIfDue
  split <;> simp

/-- Where no close event is due the table without a record stays as it is, and where one is, no record of the address comes back (R19, R33). -/
theorem State.closedIfDue_removed {s : State} {a : Addr} (hfound : ∀ e ∈ s.peers.records, e.1 ≠ a) (hmask : maskHas s.peers.present a = false) :
    findRecord a s.closedIfDue.peers.records = none ∧ maskHas s.closedIfDue.peers.present a = false := by
  rw [State.closedIfDue_peers]
  split
  · have hsettled : ∀ e ∈ settleRecords s.peers.records, e.1 ≠ a := by
      intro e he
      obtain ⟨hmap, -⟩ := List.mem_filter.1 he
      obtain ⟨x, hx, rfl⟩ := List.mem_map.1 hmap
      exact hfound x hx
    refine ⟨findRecord_eq_none hsettled, ?_⟩
    have hnot := mt (maskHas_settled s.peers.records a).1 fun ⟨e, he, hea⟩ => hsettled e he hea
    exact Bool.eq_false_iff.2 hnot
  · exact ⟨findRecord_eq_none hfound, hmask⟩

/-- The repeat timer settled is all that its conditions change of the status reporter (R167). -/
theorem State.settleRepeat_status (s : State) :
    s.settleRepeat.status = { s.status with repeatTimer := s.settleRepeat.status.repeatTimer } := by
  rw [State.settleRepeat_eq]

/-- Settles O19. -/
theorem addressClashMutes : Obligations.AddressClashMutes := by
  refine ⟨fun c s hrun hrole hjoined hhears => ?_, fun c s hrun hrole hmuted hhears hagrees => ?_⟩
  · have hmuted : s.completeFrame.mutedByClash = s.completeFrame.enterMuted := if_neg (by simpa using hjoined)
    have hclash : s.completeFrame.clash = s.completeFrame.enterMuted.closedIfDue.settleRepeat := by
      rw [State.clash_eq, hmuted, State.frameEnded_of_muted (by simp [RoundState.dropPoints])]
    have hrequest : s.completeFrame.clash.supply = { s.supply with sleepRequest := false, sleepFrame := .none } := by
      rw [hclash]
      simp [State.enterMuted, State.clearStanding_supply]
    have hexec : exec c s = .next s.completeFrame.enterMuted.closedIfDue.settleRepeat := by
      rw [exec_clash hrun hrole hhears, State.askSleep_of_no_request (by rw [hrequest]), hclash]
    rw [hclash] at hrequest
    have hround : s.completeFrame.enterMuted.round = { s.round.dropPoints with
        participation := .muted, timer := none, joinTimer := none, lastValid := some s.clock } := by simp [RoundState.dropPoints]
    have hdue : s.completeFrame.enterMuted.closeDue = true
        ↔ s.round.closePending = true ∧ s.round.missed = false ∧ s.round.t0 + 600 * 3200 ≤ s.clock := by
      rw [State.closeDue_iff, hround]
      simp [RoundState.dropPoints]
    have haddress : s.completeFrame.address = s.address := by simp [State.address]
    have hpeers : s.completeFrame.enterMuted.peers = s.peers.remove s.address := by simp [haddress]
    obtain ⟨hfound, hmask⟩ := State.closedIfDue_removed (s := s.completeFrame.enterMuted) (a := s.address)
      (by rw [hpeers]; exact not_mem_removeRecord _ _) (by rw [hpeers]; simp [PeerState.remove])
    have hlisten : s.completeFrame.enterMuted.closedIfDue.settleRepeat.round = { s.completeFrame.enterMuted.round with
        closePending := s.round.closePending && !s.completeFrame.enterMuted.closeDue
        viewOutage := s.completeFrame.enterMuted.closedIfDue.round.viewOutage } := by
      simp [RoundState.dropPoints]
    have hopen : s.completeFrame.enterMuted.closedIfDue.demand.claimsOpen = false := by
      unfold State.closedIfDue
      split <;> simp
    have hstatus : s.completeFrame.enterMuted.closedIfDue.settleRepeat.status = { s.status with
        repeatTimer := s.completeFrame.enterMuted.closedIfDue.settleRepeat.status.repeatTimer } := by
      rw [State.settleRepeat_status]
      simp
    rw [hround] at hlisten
    refine ⟨_, hexec, by rw [hlisten], by rw [hlisten], by rw [hlisten], by rw [hlisten]; rfl, by rw [hlisten]; rfl, by simpa using hfound,
      by simpa using hmask, ?_, by simp, by simp, by simpa using hopen, ?_, by rw [hlisten]; rfl, by rw [hlisten]; rfl,
      ⟨fun h => ?_, fun h => ?_⟩, hrequest, by rw [hstatus], by rw [hstatus], by simp, by simp, by simp⟩
    · simp only [State.settleRepeat_frame, State.closedIfDue_line, State.enterMuted_line]
      split
      · rw [LineState.dropNotices_eq]
        rfl
      · rfl
    · have htest : s.completeFrame.enterMuted.closedIfDue.settleRepeat.test = s.completeFrame.enterMuted.test := by simp
      rw [htest]
      exact State.clearStanding_context _
    · have hcloses := hdue.2 h
      refine ⟨by rw [hlisten, hcloses]; simp, ?_⟩
      simp only [State.settleRepeat_frame, State.closedIfDue_peers, hcloses, if_true, hpeers]
      rfl
    · have hnot : s.completeFrame.enterMuted.closeDue = false := Bool.eq_false_iff.2 fun hc => h (hdue.1 hc)
      refine ⟨by rw [hlisten, hnot]; simp, ?_⟩
      simp only [State.settleRepeat_frame, State.closedIfDue_peers, hnot, hpeers]
      rfl
  · have hsame : s.completeFrame.mutedByClash = s.completeFrame := if_pos (by simpa using hmuted)
    have hexec : exec c s = .next s.completeFrame.closedIfDue.settleRepeat.askSleep := by
      rw [exec_clash hrun hrole hhears, State.clash_eq, hsame, State.frameEnded_of_muted (by simp [hmuted])]
    have hdue : s.completeFrame.closeDue = s.closeDue := by
      rw [Bool.eq_iff_iff, State.closeDue_iff, State.closeDue_iff]
      simp
    obtain ⟨hphase, hrole', -, -, -, hrx⟩ := hagrees.ended_line
    have hline : s.completeFrame.closedIfDue.settleRepeat.line = if s.closeDue then s.line.ended.reread.dropNotices else s.line.ended.reread := by
      simp [hdue]
    have hround : s.completeFrame.closedIfDue.settleRepeat.round = { s.round with
        lastValid := some s.clock, closePending := s.round.closePending && !s.closeDue
        viewOutage := s.completeFrame.closedIfDue.round.viewOutage } := by simp [hdue]
    have hkept {α : Type} (f : LineState → α) (hf : ∀ l : LineState, f l.dropNotices = f l) :
        f s.completeFrame.closedIfDue.settleRepeat.line = f s.line.ended.reread := by
      rw [hline]
      split
      · exact hf _
      · rfl
    refine ⟨_, hexec, ?_, ?_, ?_, hround.trans (by simp), fun hnot => ?_, fun hcloses => ⟨?_, ?_, ?_⟩⟩
    · rw [hkept LineState.phase fun l => by rw [l.dropNotices_eq], hphase]
    · rw [hkept LineState.role fun l => by rw [l.dropNotices_eq], hrole']
    · rw [hkept LineState.rxErrors fun l => by rw [l.dropNotices_eq], hrx, if_neg hrole]
    · have hflat : s.completeFrame.closedIfDue = { s with
          round := { s.round with lastValid := some s.clock }, line := s.line.ended.reread } := by
        rw [State.closedIfDue, hdue, hnot, hagrees.completeFrame]
        rfl
      rw [hflat]
      apply State.eq_of_blocks <;> simp [State.settleRepeat_eq]
    · simp [hdue, hcloses]
    · have hclosed : s.completeFrame.closedIfDue = s.completeFrame.closeRound := by rw [State.closedIfDue, hdue, hcloses, if_pos rfl]
      simp [hclosed]
    · have htest : s.completeFrame.test = s.test := by rw [hagrees.completeFrame]
      have hterm : s.completeFrame.term = s.term := by rw [hagrees.completeFrame]
      have hstatus := State.settleRepeat_status s.completeFrame.closedIfDue
      apply State.eq_of_blocks <;> simp [htest, hterm]
      simpa using hstatus

end Sys2Proof.Machine

end

section
/-! ## The lowering point -/

namespace Sys2Proof.Machine

/-! ### The end of a latch interval at a lowering (R119) -/

section
variable (s : State)

/-- Whatever the converter does at the end of a latch interval, the interval's fault history is settled (R119). -/
theorem State.intervalBoundary_latch : s.intervalBoundary.conv.latchMark = false
    ∧ s.intervalBoundary.conv.latchCount = (if s.conv.latchMark then s.conv.latchCount else 0)
    ∧ s.intervalBoundary.conv.intervalTimer = s.clock + ms 2000 := by
  rw [State.intervalBoundary_eq]
  split
  · split
    · obtain ⟨-, -, -, hmark, hcount, htimer, -⟩ := State.enterRun_conv { s with conv := s.conv.intervalEnded s.clock }
      exact ⟨hmark, hcount, htimer⟩
    · exact ⟨rfl, rfl, rfl⟩
  · exact ⟨rfl, rfl, rfl⟩

/-- The end of a latch interval aborts a test, or leaves terminal and test unit alone (R119, R122, R156). -/
theorem State.intervalBoundary_test : s.intervalBoundary.test.context = none
    ∨ (s.intervalBoundary.term = s.term ∧ s.intervalBoundary.test = s.test) := by
  rw [State.intervalBoundary_eq]
  split
  · split
    · unfold State.enterRun
      dsimp only
      split
      · exact .inl (State.abortTest_context _ _)
      · exact .inr ⟨by simp, by simp⟩
    · exact .inr ⟨rfl, rfl⟩
  · exact .inr ⟨rfl, rfl⟩

variable {s}

theorem State.intervalBoundary_of_free (hfree : s.test.context = none) :
    s.intervalBoundary.term = s.term ∧ s.intervalBoundary.test = s.test := by
  rw [State.intervalBoundary_eq]
  split
  · split
    · unfold State.enterRun
      dsimp only
      split
      · rw [State.leaveRun, State.abortTest_of_none _ _ (by simp [hfree])]
        exact ⟨by simp, by simp⟩
      · exact ⟨by simp, by simp⟩
    · exact ⟨rfl, rfl⟩
  · exact ⟨rfl, rfl⟩

theorem State.intervalBoundary_of_run (hmode : s.conv.mode = .run) :
    s.intervalBoundary.conv.feedSetpoint = s.conv.feedSetpoint ∧ s.intervalBoundary.conv.chargeSetpoint = s.conv.chargeSetpoint := by
  rw [State.intervalBoundary_eq, if_neg (by simp [hmode])]
  exact ⟨rfl, rfl⟩

end

/-! ### A lowering (R13, R51) -/

/-- The grants in force brought down to their computed values (R51). -/
def State.grantsLowered (s : State) : State := { s with share := { s.share with
  feedGrant := min s.share.feedGrant s.share.computedFeed
  chargeGrant := min s.share.chargeGrant s.share.computedCharge } }

/-- The station with its grants lowered and its latch interval ended, test unit and terminal still to be told (R51, R115, R119). -/
def State.loweredDown (s : State) : State := s.grantsLowered.retarget.intervalBoundary

/-- The test unit told of a lowering: a TEST request left uncovered aborts its test (R156). -/
def State.testLowered (s : State) : State :=
  match s.loweredDown.test.context with
  | none => s.loweredDown
  | some c =>
    if s.loweredDown.share.feedGrant < s.share.feedGrant ∧ s.loweredDown.share.feedGrant < c.request then s.loweredDown.abortTest .notCarried
    else s.loweredDown

theorem State.applyLowering_eq (s : State) : s.applyLowering = s.testLowered.grantSeen s.share.feedGrant := rfl

section
variable (s : State)

@[simp] theorem State.loweredDown_frame : s.loweredDown.clock = s.clock ∧ s.loweredDown.supply = s.supply ∧ s.loweredDown.pins = s.pins
    ∧ s.loweredDown.share = { s.share with
        feedGrant := min s.share.feedGrant s.share.computedFeed, chargeGrant := min s.share.chargeGrant s.share.computedCharge }
    ∧ s.loweredDown.batt.band = s.batt.band := by
  simp [State.loweredDown, State.grantsLowered]

theorem State.testLowered_conv : s.testLowered.conv = s.loweredDown.conv := by
  unfold State.testLowered
  (repeat' split) <;> simp

/-- What a lowering does to the converter's fault history (R119). -/
theorem State.applyLowering_latch : s.applyLowering.conv.latchMark = false
    ∧ s.applyLowering.conv.latchCount = (if s.conv.latchMark then s.conv.latchCount else 0)
    ∧ s.applyLowering.conv.intervalTimer = s.clock + 2000 * 3200 := by
  have hconv : s.applyLowering.conv = s.loweredDown.conv := by
    rw [State.applyLowering_eq, ← State.testLowered_conv]
    simp
  have hkept : s.grantsLowered.retarget.conv.latchMark = s.conv.latchMark ∧ s.grantsLowered.retarget.conv.latchCount = s.conv.latchCount := by
    unfold State.retarget
    split
    · simp [State.grantsLowered]
    · exact ⟨rfl, rfl⟩
  obtain ⟨hmark, hcount, htimer⟩ := s.grantsLowered.retarget.intervalBoundary_latch
  rw [hconv]
  refine ⟨hmark, hcount.trans (by rw [hkept.1, hkept.2]), htimer.trans ?_⟩
  simp [State.grantsLowered, ms]

variable {s}

/-- The setpoints of a RUN converter step down with the grants (R115). -/
theorem State.applyLowering_setpoints (hmode : s.conv.mode = .run) (hgrant : s.drawsByGrant = true) :
    s.applyLowering.conv.feedSetpoint = min s.conv.feedSetpoint (min s.share.feedGrant s.share.computedFeed)
      ∧ s.applyLowering.conv.chargeSetpoint = min s.conv.chargeSetpoint (min (min s.share.chargeGrant s.share.computedCharge)
          (s.ceiling - min s.share.feedGrant s.share.computedFeed)) := by
  have hconv : s.applyLowering.conv = s.loweredDown.conv := by
    rw [State.applyLowering_eq, ← State.testLowered_conv]
    simp
  have hdraws : s.grantsLowered.drawsByGrant = true := hgrant
  have hset : s.grantsLowered.retarget.conv.mode = .run
      ∧ s.grantsLowered.retarget.conv.feedSetpoint = min s.conv.feedSetpoint (min s.share.feedGrant s.share.computedFeed)
      ∧ s.grantsLowered.retarget.conv.chargeSetpoint = min s.conv.chargeSetpoint (min (min s.share.chargeGrant s.share.computedCharge)
          (s.ceiling - min s.share.feedGrant s.share.computedFeed)) := by
    rw [State.retarget, if_pos (show s.grantsLowered.conv.mode = .run from hmode), State.setSetpoints_conv, State.chargeTarget, State.feedTarget,
      if_pos hdraws, if_pos hdraws]
    exact ⟨hmode, rfl, rfl⟩
  obtain ⟨hrun, hfeed, hcharge⟩ := hset
  obtain ⟨hkeptFeed, hkeptCharge⟩ := State.intervalBoundary_of_run hrun
  rw [hconv, State.loweredDown, hkeptFeed, hkeptCharge]
  exact ⟨hfeed, hcharge⟩

/-- A lowering that leaves the TEST request of a test in flight uncovered aborts it (R156). -/
theorem State.applyLowering_aborts {c : TestContext} (hc : s.test.context = some c) (hfall : s.share.computedFeed < s.share.feedGrant)
    (hshort : s.share.computedFeed < c.request) : s.applyLowering.test.context = none := by
  have hgrant : s.loweredDown.share.feedGrant = s.share.computedFeed := by
    rw [(s.loweredDown_frame).2.2.2.1]
    exact Nat.min_eq_right (Nat.le_of_lt hfall)
  rw [State.applyLowering_eq, State.grantSeen_context, State.testLowered]
  split
  next hnone => exact hnone
  next d hd =>
    have hsame : d = c := by
      rcases s.grantsLowered.retarget.intervalBoundary_test with hnone | ⟨-, htest⟩
      · exact absurd (hd.symm.trans hnone) (by simp)
      · have hkept : s.loweredDown.test = s.test := htest.trans (by simp [State.grantsLowered])
        rw [hkept, hc] at hd
        exact (Option.some.inj hd).symm
    rw [if_pos ⟨by rw [hgrant]; exact hfall, by rw [hgrant, hsame]; exact hshort⟩]
    exact State.abortTest_context _ _

section
variable (hfree : s.test.context = none)

include hfree

/-- With no test in flight a lowering is the terminal interface's to answer (R50, R51). -/
theorem State.applyLowering_of_free : s.applyLowering = s.loweredDown.grantSeen s.share.feedGrant := by
  obtain ⟨-, htest⟩ := State.intervalBoundary_of_free (s := s.grantsLowered.retarget) (by simp [State.grantsLowered, hfree])
  have hnone : s.loweredDown.test.context = none := by
    rw [State.loweredDown, htest]
    simp [State.grantsLowered, hfree]
  rw [State.applyLowering_eq, State.testLowered, hnone]

theorem State.loweredDown_of_free : s.loweredDown.term = s.term ∧ s.loweredDown.test = s.test := by
  obtain ⟨hterm, htest⟩ := State.intervalBoundary_of_free (s := s.grantsLowered.retarget) (by simp [State.grantsLowered, hfree])
  exact ⟨hterm.trans (by simp [State.grantsLowered]), htest.trans (by simp [State.grantsLowered])⟩

theorem State.loweredDown_sees (hfall : s.share.computedFeed < s.share.feedGrant) :
    s.loweredDown.Sees s s.supply.mains s.batt.band s.share.computedFeed := by
  obtain ⟨hterm, -⟩ := State.loweredDown_of_free hfree
  obtain ⟨-, hsupply, -, hshare, hband⟩ := s.loweredDown_frame
  refine ⟨by rw [hsupply], by rw [hterm], by rw [hterm], by rw [hsupply], hband, ?_⟩
  rw [hshare]
  exact Nat.min_eq_right (Nat.le_of_lt hfall)

/-- A feed grant that falls has the terminal interface react (R50). -/
theorem State.applyLowering_falls (hfall : s.share.computedFeed < s.share.feedGrant) : s.applyLowering = s.loweredDown.terminalReacts := by
  rw [State.applyLowering_of_free hfree, State.grantSeen, if_neg]
  rw [(State.loweredDown_sees hfree hfall).grant]
  exact Nat.ne_of_lt hfall

theorem State.applyLowering_stays (hkeeps : s.share.feedGrant ≤ s.share.computedFeed) : s.applyLowering = s.loweredDown := by
  rw [State.applyLowering_of_free hfree, State.grantSeen, if_pos]
  rw [(s.loweredDown_frame).2.2.2.1]
  exact Nat.min_eq_left hkeeps

theorem State.applyLowering_context : s.applyLowering.test.context = none := by
  rw [State.applyLowering_of_free hfree, State.grantSeen_context, (State.loweredDown_of_free hfree).2, hfree]

end

end

/-- The station at its lowering point, the point taken (R13). -/
def State.atLowering (s : State) : State := { s with round := { s.round with loweringPending := false, loweringDue := false } }

theorem exec_loweringPoint {s : State} (hrun : s.supply.power = .running) (hpending : s.round.loweringPending = true)
    (hmissed : s.round.missed = false) (hmember : s.round.participation = .member) (htime : s.round.t0 + 650 * 3200 ≤ s.clock) :
    exec .loweringPoint s = .next ((State.runPoints { s with round := { s.round with loweringDue := true } }).raiseCarry).askSleep := by
  have hdue : (s.round.loweringPending && !s.round.missed && decide (s.roundMoment 650 ≤ s.clock)) = true := by
    rw [hpending, hmissed, decide_eq_true (show s.roundMoment 650 ≤ s.clock from htime)]
    rfl
  rw [exec, execLoweringPoint, whenRunning_of_running _ hrun, hdue, if_pos rfl, if_pos hmember]

/-- Settles O25. -/
theorem loweringPointLowersGrants : Obligations.LoweringPointLowersGrants := by
  intro s hrun hpending hmissed hmember htime
  have hexec := exec_loweringPoint hrun hpending hmissed hmember htime
  refine ⟨fun hflight hclose hraising => ?_, fun hflight => ?_⟩
  · have hpoints : State.runPoints { s with round := { s.round with loweringDue := true } } = s.atLowering.applyLowering := by
      have hnot : State.raisesNow { s with round := { s.round with loweringDue := true } } = false := by simp [State.raisesNow, hraising]
      have hlowers : State.lowersNow { s with round := { s.round with loweringDue := true } } = true := by
        simp [State.lowersNow, hflight, hclose, hpending]
      rw [State.runPoints_eq, hnot, if_neg (by simp), State.lowered, hlowers, if_pos rfl]
      rfl
    rw [hpoints] at hexec
    obtain ⟨hmark, hcount, htimer⟩ := s.atLowering.applyLowering_latch
    have hconv : s.atLowering.applyLowering.raiseCarry.conv = s.atLowering.applyLowering.conv := by simp
    have hterm : s.atLowering.applyLowering.raiseCarry.term = s.atLowering.applyLowering.term := by simp
    have htest : s.atLowering.applyLowering.raiseCarry.test = { s.atLowering.applyLowering.test with
        carry := s.atLowering.applyLowering.test.carry || s.atLowering.applyLowering.carryDue } := State.raiseCarry_test _
    refine ⟨_, hexec, by simp [State.atLowering], by simp [State.atLowering], by rw [hconv]; exact hmark, by rw [hconv]; exact hcount,
      by rw [hconv]; exact htimer, fun hmode hgrant => ?_, fun c hc hfall hshort => ?_, fun hfree hkeeps => ?_,
      fun hfree hfall hmains hband hdraw => ?_, fun hfree hfall hmains hband hmode hdemand hshort hnone => ?_,
      fun hfree hfall hrated hwaits hmode hready hgate => ?_, ?_⟩
    · rw [hconv]
      exact State.applyLowering_setpoints (s := s.atLowering) hmode hgrant
    · rw [htest]
      exact State.applyLowering_aborts (s := s.atLowering) hc hfall hshort
    · rw [hterm, State.applyLowering_stays (s := s.atLowering) hfree hkeeps]
      exact (State.loweredDown_of_free (s := s.atLowering) hfree).1
    · obtain ⟨hsameTerm, hsameTest⟩ := State.loweredDown_of_free (s := s.atLowering) hfree
      have hcutoff := (State.loweredDown_sees (s := s.atLowering) hfree hfall).cutoffNow.2 ⟨hmains, hband, hdraw⟩
      rw [hterm, htest, State.applyLowering_falls (s := s.atLowering) hfree hfall, State.terminalReacts_of_cutoff hcutoff, hsameTerm, hsameTest]
      exact ⟨rfl, rfl, fun hmark => if_pos hmark⟩
    · obtain ⟨hsameTerm, -⟩ := State.loweredDown_of_free (s := s.atLowering) hfree
      have hforced := (State.loweredDown_sees (s := s.atLowering) hfree hfall).forcedNow.2 ⟨hmains, hband, hmode, hdemand, hshort⟩
      rw [hterm, State.applyLowering_falls (s := s.atLowering) hfree hfall,
        State.terminalReacts_of_forced hforced (by rw [hsameTerm]; exact hnone), State.enterHold_term, hsameTerm]
      rfl
    · obtain ⟨hsameTerm, hsameTest⟩ := State.loweredDown_of_free (s := s.atLowering) hfree
      obtain ⟨hclock, -, hpins, -, hband⟩ := s.atLowering.loweredDown_frame
      have hallowed := (State.loweredDown_sees (s := s.atLowering) hfree hfall).wakeGate.2 hgate
      rw [hterm, htest, State.applyLowering_falls (s := s.atLowering) hfree hfall,
        State.terminalReacts_of_gate (by rw [hsameTerm]; exact hwaits) (by rw [hband]; exact hrated) (by rw [hsameTerm]; exact hmode)
          (by rw [hsameTest]; exact hfree) hallowed (by rw [hpins]; exact hready), hsameTerm, hsameTest, hclock, hband]
      exact ⟨rfl, rfl⟩
    · apply State.eq_of_blocks <;> simp [State.atLowering]
  · have hpoints : State.runPoints { s with round := { s.round with loweringDue := true } } = { s with round := { s.round with loweringDue := true } } :=
      if_pos (.inl hflight)
    rw [hpoints, State.raiseCarry_eq] at hexec
    exact ⟨_, hexec, rfl, rfl, rfl, rfl⟩

end Sys2Proof.Machine

end

section
/-! ## The raising point -/

namespace Sys2Proof.Machine

/-! ### A raising (R13, R52, R152) -/

/-- The grants in force raised, the terminal interface told, the test unit still to be (R52). -/
def State.raisedUp (s : State) : State :=
  (State.retarget { s with share := s.share.raised s.ceiling }).grantSeen s.share.feedGrant

/-- What a raising leaves of the blocks, the status frame still to be asked for (R52, R152, R164). -/
def State.raisedTested (s : State) : State :=
  { s.raisedUp.startTest.raiseCarry with supply := { s.raisedUp.startTest.raiseCarry.supply with sleepRequest := true, sleepFrame := .none } }

theorem State.applyRaising_eq (s : State) : s.applyRaising = s.raisedTested.requestStatus := by
  unfold State.applyRaising State.raisedTested State.raisedUp
  rfl

/-- A status frame asked for leaves a sleep frame that is not waiting (R164). -/
theorem State.requestStatus_supply {s : State} (h : s.supply.sleepFrame = .none) : s.requestStatus.supply = s.supply := by
  unfold State.requestStatus
  split
  · have hkept : (if s.supply.sleepFrame = .waiting then .sending else s.supply.sleepFrame) = s.supply.sleepFrame := by simp [h]
    rw [State.startStatus, hkept]
  · rfl

section
variable (s : State)

@[simp] theorem State.raisedUp_frame : s.raisedUp.clock = s.clock ∧ s.raisedUp.supply = s.supply ∧ s.raisedUp.pins = s.pins
    ∧ s.raisedUp.round = s.round ∧ s.raisedUp.share = s.share.raised s.ceiling ∧ s.raisedUp.demand = s.demand ∧ s.raisedUp.line = s.line
    ∧ s.raisedUp.batt.band = s.batt.band ∧ s.raisedUp.conv.mode = s.conv.mode := by
  simp [State.raisedUp]

theorem State.applyRaising_supply : s.applyRaising.supply = { s.supply with sleepRequest := true, sleepFrame := .none } := by
  rw [State.applyRaising_eq, State.requestStatus_supply rfl]
  simp [State.raisedTested]

/-- What the terminal interface sees of a feed grant that rises. -/
theorem State.raised_sees (hrise : s.share.feedGrant < s.share.computedFeed) :
    (State.retarget { s with share := s.share.raised s.ceiling }).Sees s s.supply.mains s.batt.band s.share.computedFeed := by
  refine ⟨by simp, by simp, by simp, by simp, by simp, ?_⟩
  simp [ShareState.raised, Nat.le_of_lt hrise]

theorem State.testRequest_of_formed {s : State} (h : s.demand.carryFormed = true) :
    s.testRequest = (s.demand.claims.map RoundClaims.feedRequest).getD 0 := by
  rw [State.testRequest, if_pos h]
  cases s.demand.claims <;> rfl

/-- The conditions under which a pulse test starts (R152). -/
theorem State.testStarts_iff : s.testStarts = true ↔ s.test.carry = true ∧ s.test.context = none ∧ s.test.inHand = none
    ∧ s.demand.carryFormed = true ∧ s.share.feedGrant = (s.demand.claims.map RoundClaims.feedRequest).getD 0
    ∧ (s.batt.band = .full ∨ s.batt.band = .good)
    ∧ (s.term.mode = .hold ∨ (s.term.mode = .active ∧ s.term.demand = .idle)) ∧ s.conv.mode = .run
    ∧ s.supply.mains = .absent ∧ s.round.participation = .member ∧ s.round.referenced = true ∧ s.line.confinement ≠ .offline := by
  have hrequest := State.testRequest_of_formed (s := s)
  simp only [State.testStarts, State.inOutage, Bool.and_eq_true, decide_eq_true_eq, Option.isNone_iff_eq_none, Band.testable_iff,
    TerminalState.testable_iff, and_assoc]
  constructor
  · rintro ⟨hcarry, hfree, hhand, hformed, hgrant, hrest⟩
    exact ⟨hcarry, hfree, hhand, hformed, hrequest hformed ▸ hgrant, hrest⟩
  · rintro ⟨hcarry, hfree, hhand, hformed, hgrant, hrest⟩
    exact ⟨hcarry, hfree, hhand, hformed, (hrequest hformed).symm ▸ hgrant, hrest⟩

/-- A test begun: its context, its carry count, the charge switch open (R131, R152). -/
theorem State.startTest_of_starts {s : State} (h : s.testStarts = true) : s.startTest.test.context = some s.newContext
    ∧ s.startTest.test.carryCount = 0 ∧ s.startTest.batt.charge = .opened ∧ s.startTest.batt.conduction = 0 := by
  rw [State.startTest, if_pos h]
  have hopen : State.chargeCloses { s with test := { s.test with context := some s.newContext, carryCount := 0 } } = false := by
    simp [State.chargeCloses, State.testInFlight]
  simp [hopen]

theorem State.startTest_of_not {s : State} (h : s.testStarts ≠ true) : s.startTest = s := if_neg h

end

/-- A raising leaves of the test unit all but wake check and results (R52). -/
theorem State.raisedUp_test (s : State) : s.raisedUp.test.carry = s.test.carry ∧ s.raisedUp.test.context = s.test.context
    ∧ s.raisedUp.test.inHand = s.test.inHand ∧ s.raisedUp.test.carryCount = s.test.carryCount := by
  unfold State.raisedUp State.grantSeen State.terminalReacts
  (repeat' split) <;> simp

section
variable {s : State}

theorem State.raisedUp_stays (hkeeps : s.share.computedFeed ≤ s.share.feedGrant) : s.raisedUp.term = s.term ∧ s.raisedUp.test = s.test := by
  have hsame : (State.retarget { s with share := s.share.raised s.ceiling }).share.feedGrant = s.share.feedGrant := by
    simp [ShareState.raised, hkeeps]
  rw [State.raisedUp, State.grantSeen, if_pos hsame]
  exact ⟨by simp, by simp⟩

theorem State.raisedUp_rises (hrise : s.share.feedGrant < s.share.computedFeed) :
    s.raisedUp = (State.retarget { s with share := s.share.raised s.ceiling }).terminalReacts := by
  rw [State.raisedUp, State.grantSeen, if_neg]
  rw [(s.raised_sees hrise).grant]
  exact (Nat.ne_of_lt hrise).symm

/-- At FULL or GOOD a rise moves the terminal only by a pending wake (R139, R144, R145). -/
theorem State.raisedUp_quiet (hquiet : s.term.wakePending = false ∨ s.share.computedFeed ≤ s.share.feedGrant)
    (hband : s.batt.band = .full ∨ s.batt.band = .good) : s.raisedUp.term = s.term ∧ s.raisedUp.test = s.test := by
  by_cases hkeeps : s.share.computedFeed ≤ s.share.feedGrant
  · exact State.raisedUp_stays hkeeps
  · have hsees := s.raised_sees (Nat.lt_of_not_le hkeeps)
    have hnone := hquiet.resolve_right hkeeps
    rw [State.raisedUp_rises (Nat.lt_of_not_le hkeeps), State.terminalReacts_of_neither]
    · exact ⟨by simp, by simp⟩
    · rw [hsees.cutoffNow]
      rcases hband with h | h <;> simp [h]
    · rw [hsees.forcedNow]
      rcases hband with h | h <;> simp [h]
    · simpa using hnone

/-- A rise that lets a pending wake through (R139). -/
theorem State.raisedUp_wakes (hrise : s.share.feedGrant < s.share.computedFeed) (hwaits : s.term.wakePending = true)
    (hrated : s.batt.band ≠ .unrated) (hfree : s.test.context = none) (hmode : s.term.mode = .hold ∨ s.term.mode = .off)
    (hgate : (State.retarget { s with share := s.share.raised s.ceiling }).WakeGate) (hready : s.pins.ready = false) :
    s.raisedUp.term = { s.term with
        mode := .booting, bootTimer := some s.clock, idleTimer := none, retryWait := none, wakePending := false
        wakeMark := decide (s.term.mode = .hold) }
      ∧ s.raisedUp.test.wakeCheck = if s.term.mode = .hold then some s.batt.band else s.test.wakeCheck := by
  rw [State.raisedUp_rises hrise, State.terminalReacts_of_gate (by simpa using hwaits) (by simpa using hrated) (by simpa using hmode)
    (by simpa using hfree) hgate (by simpa using hready)]
  simp

/-- A rise that leaves a pending wake pending leaves the terminal, or cuts it off (R139, R145). -/
theorem State.raisedUp_waits (hrise : s.share.feedGrant < s.share.computedFeed) (hwaits : s.term.wakePending = true)
    (hmode : s.term.mode = .hold ∨ s.term.mode = .off)
    (hgate : ¬ (State.retarget { s with share := s.share.raised s.ceiling }).WakeGate) : s.raisedUp.term.wakePending = true
      ∧ (s.raisedUp.term.mode = .hold ∨ s.raisedUp.term.mode = .off)
      ∧ (s.raisedUp.term.bootTimer = none ∨ s.raisedUp.term.bootTimer = s.term.bootTimer) := by
  rw [State.raisedUp_rises hrise]
  by_cases hcutoff : (State.retarget { s with share := s.share.raised s.ceiling }).CutoffNow
  · rw [State.terminalReacts_of_cutoff hcutoff]
    exact ⟨by simpa using hwaits, .inr rfl, .inl rfl⟩
  · have hforced : ¬ (State.retarget { s with share := s.share.raised s.ceiling }).ForcedNow := by
      rw [(s.raised_sees hrise).forcedNow]
      rcases hmode with h | h <;> simp [h]
    rw [State.terminalReacts_of_barred (.inr hgate) hcutoff hforced]
    exact ⟨by simpa using hwaits, by simpa using hmode, .inr (by simp)⟩

/-- The conditions of a start as the raising leaves them (R52, R152). -/
theorem State.raisedUp_starts (hquiet : s.term.wakePending = false ∨ s.share.computedFeed ≤ s.share.feedGrant)
    (hmember : s.round.participation = .member) : s.raisedUp.testStarts = true
    ↔ s.test.carry = true ∧ s.test.context = none ∧ s.test.inHand = none ∧ s.demand.carryFormed = true
      ∧ max s.share.feedGrant s.share.computedFeed = (s.demand.claims.map RoundClaims.feedRequest).getD 0
      ∧ (s.batt.band = .full ∨ s.batt.band = .good)
      ∧ (s.term.mode = .hold ∨ (s.term.mode = .active ∧ s.term.demand = .idle)) ∧ s.conv.mode = .run
      ∧ s.supply.mains = .absent ∧ s.round.referenced = true ∧ s.line.confinement ≠ .offline := by
  obtain ⟨-, hsupply, -, hround, hshare, hdemand, hline, hband, hmode⟩ := s.raisedUp_frame
  obtain ⟨hcarry, hfree, hhand, -⟩ := s.raisedUp_test
  have hgrant : (s.share.raised s.ceiling).feedGrant = max s.share.feedGrant s.share.computedFeed := rfl
  rw [State.testStarts_iff, hsupply, hround, hshare, hdemand, hline, hband, hmode, hcarry, hfree, hhand, hgrant]
  simp only [hmember, true_and]
  by_cases hgood : s.batt.band = .full ∨ s.batt.band = .good
  · rw [(State.raisedUp_quiet hquiet hgood).1]
  · simp only [hgood, false_and, and_false]

end

/-- The station at its raising point, the point taken (R13). -/
def State.atRaising (s : State) : State := { s with round := { s.round with raisingPending := false, raisingDue := false, reportPending := false } }

theorem exec_raisingPoint {s : State} (hrun : s.supply.power = .running) (hpending : s.round.raisingPending = true)
    (hmissed : s.round.missed = false) (hmember : s.round.participation = .member) (htime : s.round.t0 + 700 * 3200 ≤ s.clock) :
    exec .raisingPoint s = .next ((State.runPoints { s with round := { s.round with raisingDue := true } }).raiseCarry).askSleep := by
  have hdue : (s.round.raisingPending && !s.round.missed && decide (s.roundMoment 700 ≤ s.clock)) = true := by
    rw [hpending, hmissed, decide_eq_true (show s.roundMoment 700 ≤ s.clock from htime)]
    rfl
  rw [exec, execRaisingPoint, whenRunning_of_running _ hrun, hdue, if_pos rfl, if_pos hmember]

/-- Settles O26. -/
theorem raisingPointRaisesGrants : Obligations.RaisingPointRaisesGrants := by
  intro s hrun hpending hmissed hmember htime
  have hexec := exec_raisingPoint hrun hpending hmissed hmember htime
  refine ⟨fun hflight hclose hlowering => ?_, fun hflight => ?_⟩
  · have hpoints : State.runPoints { s with round := { s.round with raisingDue := true } } = s.atRaising.applyRaising := by
      have hraises : State.raisesNow { s with round := { s.round with raisingDue := true } } = true := by
        simp [State.raisesNow, hflight, hclose, hpending, hlowering]
      have hlowers : State.lowersNow { s with round := { s.round with raisingDue := true } } = false := by
        simp [State.lowersNow, hlowering]
      rw [State.runPoints_eq, hraises, if_pos rfl, State.lowered, hlowers, if_neg (by simp)]
      rfl
    rw [hpoints] at hexec
    have hterm : s.atRaising.applyRaising.raiseCarry.term = s.atRaising.raisedUp.term := by
      simp [State.applyRaising_eq, State.raisedTested]
    have hcontext : s.atRaising.applyRaising.raiseCarry.test.context = s.atRaising.raisedUp.startTest.test.context := by
      simp [State.applyRaising_eq, State.raisedTested, State.raiseCarry_test]
    have hcount : s.atRaising.applyRaising.raiseCarry.test.carryCount = s.atRaising.raisedUp.startTest.test.carryCount := by
      simp [State.applyRaising_eq, State.raisedTested, State.raiseCarry_test]
    have hcheck : s.atRaising.applyRaising.raiseCarry.test.wakeCheck = s.atRaising.raisedUp.startTest.test.wakeCheck := by
      simp [State.applyRaising_eq, State.raisedTested, State.raiseCarry_test]
    have hbatt : s.atRaising.applyRaising.raiseCarry.batt = s.atRaising.raisedUp.startTest.batt := by
      simp [State.applyRaising_eq, State.raisedTested]
    have hshare : s.atRaising.applyRaising.raiseCarry.share = s.share.raised s.ceiling := by simp [State.atRaising, State.ceiling]
    have hstatus : s.atRaising.applyRaising.raiseCarry.status = s.atRaising.raisedTested.requestStatus.status := by simp [State.applyRaising_eq]
    refine ⟨_, hexec, hshare, fun hroom => ?_, by simp [State.atRaising], ?_, ?_, fun hquiet => ?_, fun hwaits hrise hrated hfree hmode => ?_, ?_⟩
    · rw [hshare]
      simp only [ShareState.raised]
      omega
    · rw [(State.raiseCarry_frame _).2.1, State.applyRaising_supply]
      rfl
    · rw [hstatus]
      exact State.requestStatus_asks _
    · have hstarts := State.raisedUp_starts (s := s.atRaising) hquiet hmember
      intro starts
      rw [hcontext, hcount, hbatt]
      refine ⟨fun h => ?_, fun h => ?_⟩
      · obtain ⟨hbegun, hzero, hopen, hoff⟩ := State.startTest_of_starts (hstarts.2 h)
        refine ⟨hzero, hopen, hoff, hbegun.trans ?_⟩
        obtain ⟨hclock, -, -, -, -, hdemand, -, hband, -⟩ := s.atRaising.raisedUp_frame
        obtain ⟨-, -, -, hformed, hgrant, -⟩ := h
        rw [State.newContext, hband, hclock, State.testRequest_of_formed (by rw [hdemand]; exact hformed), hdemand, hgrant]
        rfl
      · rw [State.startTest_of_not (mt hstarts.1 h)]
        obtain ⟨-, hsame, -, hkept⟩ := s.atRaising.raisedUp_test
        exact ⟨hsame, hkept⟩
    · intro allowed
      have hsees := s.atRaising.raised_sees hrise
      have hup := State.raisedUp_rises (s := s.atRaising) hrise
      rw [hterm, hcontext, hcount, hcheck]
      refine ⟨fun hgate hready => ?_, fun hgate => ?_⟩
      · obtain ⟨hbooted, hchecked⟩ := State.raisedUp_wakes (s := s.atRaising) hrise hwaits hrated hfree hmode (hsees.wakeGate.2 hgate) hready
        obtain ⟨-, hsame, -, hkept⟩ := s.atRaising.raisedUp_test
        have hnot : s.atRaising.raisedUp.testStarts ≠ true := by
          rw [Ne, State.testStarts_iff, hbooted]
          simp
        rw [State.startTest_of_not hnot]
        exact ⟨hbooted, hchecked, hsame.trans hfree, hkept⟩
      · obtain ⟨hwaits', hmode', hboot⟩ := State.raisedUp_waits (s := s.atRaising) hrise hwaits hmode (mt hsees.wakeGate.1 hgate)
        refine ⟨hwaits', hmode', fun hsafe => ?_⟩
        rcases hboot with hnone | hsame
        · exact hnone
        · have hidle : s.term.bootTimer.isSome ≠ true := fun hrunning => by
            have hbooting := hsafe.1.1 hrunning
            rcases hmode with h | h
            · exact absurd (h.symm.trans hbooting) (by decide)
            · exact absurd (h.symm.trans hbooting) (by decide)
          exact hsame.trans (by simpa [State.atRaising] using hidle)
    · apply State.eq_of_blocks <;> simp [State.atRaising]
  · have hpoints : State.runPoints { s with round := { s.round with raisingDue := true } } = { s with round := { s.round with raisingDue := true } } :=
      if_pos (.inl hflight)
    rw [hpoints, State.raiseCarry_eq] at hexec
    exact ⟨_, hexec, rfl, rfl⟩

end Sys2Proof.Machine

end

section
/-! ## The share computation completes -/

namespace Sys2Proof.Machine

/-! ### The share computation completes (R43, R49) -/

theorem isChargeClass_eq (c : ClaimClass) : isChargeClass c = decide (c = .recover ∨ c = .topup) := by
  cases c <;> rfl

/-- The computed own grants: those of the view's claims of the address, 0 where the view holds none (R43). -/
theorem grantAt_eq (view : List Claim) (budget : Nat) (a : Addr) (charge : Bool) : grantAt view budget a charge
    = ((view.find? fun c => decide (c.addr = a) && decide (c.cls = .recover ∨ c.cls = .topup) == charge).map (grantOf view budget)).getD 0 := by
  have hsame : (fun c : Claim => decide (c.addr = a) && decide (isChargeClass c.cls = charge))
      = fun c => decide (c.addr = a) && decide (c.cls = .recover ∨ c.cls = .topup) == charge := by
    funext c
    rw [isChargeClass_eq]
    cases decide (c.cls = .recover ∨ c.cls = .topup) <;> cases charge <;> rfl
  rw [grantAt, hsame]
  cases view.find? _ <;> rfl

section
variable (s : State)

/-- The stage that served the computation passes on (R48). -/
theorem State.finishShare_stage : s.finishShare.share.stage = if s.share.stage = some .share then s.share.waiting else s.share.stage := by
  unfold State.finishShare
  dsimp only
  split <;> rfl

theorem State.finishShare_blocks : s.finishShare = { s with share := s.finishShare.share } := rfl

variable {s}

/-- A lowering leaves no test in flight where none was. -/
theorem State.lowered_context (hfree : s.test.context = none) : s.lowered.test.context = none := by
  unfold State.lowered
  split
  · exact State.applyLowering_context hfree
  · exact hfree

/-- The apply points without a raising (R13). -/
theorem State.runPoints_of_not_raising (h : s.raisesNow = false) : s.runPoints = s.lowered := by
  rw [State.runPoints_eq, if_neg (by simp [h])]

theorem State.owedApplied_of_none (h : s.round.owedLowering = false) : s.owedApplied = s := if_neg (by simp [h])

end

/-- A lowering owed and one whose point has come bring a grant down once (R13, R14). -/
theorem lowered_twice (owed point : Bool) (grant computed : Nat) :
    (if point then min (if owed then min grant computed else grant) computed else if owed then min grant computed else grant)
      = if owed || point then min grant computed else grant := by
  cases owed <;> cases point <;> simp

/-- Settles O24. -/
theorem computationWritesOwnGrants : Obligations.ComputationWritesOwnGrants := by
  intro s hrun hflight hwaiting granted point lowers raises feed charge
  have hexec : exec .shareComputationComplete s = .next s.finishShare.owedApplied.runPoints.raiseCarry.askSleep := by
    rw [exec, execShareComputationComplete, whenRunning_of_running _ hrun, if_pos (by simp [hflight, hwaiting])]
    rfl
  obtain ⟨hfeedKept, hchargeKept, hdone, hbudget, hcomputedFeed, hcomputedCharge⟩ := s.finishShare_grants
  have hgranted (c : Bool) : grantAt s.peers.view s.share.budgetUsed s.address c = granted c := grantAt_eq _ _ _ _
  rw [hgranted] at hcomputedFeed hcomputedCharge
  have hown : s.finishShare.round = s.round := rfl
  have htakenRound : s.finishShare.owedApplied.round = { s.round with owedLowering := false } := State.owedApplied_round _
  have htakenShare : s.finishShare.owedApplied.share = { s.finishShare.share with
      feedGrant := if s.round.owedLowering then min s.share.feedGrant (granted false) else s.share.feedGrant
      chargeGrant := if s.round.owedLowering then min s.share.chargeGrant (granted true) else s.share.chargeGrant } := by
    rw [State.owedApplied_share, hcomputedFeed, hcomputedCharge, hfeedKept, hchargeKept]
    rfl
  have hpoint : s.finishShare.owedApplied.lowersNow = point := by
    rw [State.lowersNow, htakenRound, htakenShare]
    simp only [hdone, point]
    cases s.round.closePending <;> simp
  have hraises : s.finishShare.owedApplied.raisesNow = raises := by
    rw [State.raisesNow, hpoint, htakenRound, htakenShare]
    simp only [hdone, raises]
    cases s.round.closePending <;> simp
  have hround := s.finishShare.owedApplied.runPoints_round
  rw [hpoint, hraises, htakenRound] at hround
  have hshare := s.finishShare.owedApplied.runPoints_share
  rw [hraises, State.lowered_share, hpoint, htakenShare, hcomputedFeed, hcomputedCharge] at hshare
  have hshare' : s.finishShare.owedApplied.runPoints.raiseCarry.share = s.finishShare.owedApplied.runPoints.share := by simp
  refine ⟨_, hexec, ?_, ?_, ?_, ?_, ?_, ?_, ?_, ?_, fun hl c hc hfall hshort hnot => ?_, fun hr => ⟨?_, ?_⟩, fun hnot hnot' => ?_, fun hnot => ?_, ?_⟩
  · rw [hshare', hshare]
    split <;> exact hcomputedFeed
  · rw [hshare', hshare]
    split <;> exact hcomputedCharge
  · rw [hshare', hshare]
    split <;> exact hdone
  · rw [hshare', hshare]
    split <;> exact hbudget
  · rw [hshare', hshare]
    split <;> exact s.finishShare_stage
  · have hfeed := lowered_twice s.round.owedLowering point s.share.feedGrant (granted false)
    rw [hshare', hshare]
    cases hr : raises
    · exact hfeed
    · exact congr (congrArg max hfeed) hcomputedFeed
  · have hfeed := lowered_twice s.round.owedLowering point s.share.feedGrant (granted false)
    have hcharge := lowered_twice s.round.owedLowering point s.share.chargeGrant (granted true)
    have hceiling : s.finishShare.owedApplied.ceiling = s.ceiling := by simp [State.ceiling]
    rw [hshare', hshare, hceiling]
    cases hr : raises
    · exact hcharge
    · exact congr (congrArg min (congr (congrArg max hcharge) hcomputedCharge))
        (congrArg (s.ceiling - ·) (congr (congrArg max hfeed) hcomputedFeed))
  · rw [(State.raiseCarry_frame _).2.2.2.1]
    exact hround
  · have hfeed : feed = min s.share.feedGrant (granted false) := if_pos hl
    have hlow : granted false < s.share.feedGrant ∧ granted false < c.request := by omega
    rw [State.runPoints_of_not_raising (hraises.trans hnot), State.raiseCarry_test]
    rw [← hcomputedFeed] at hlow
    cases howed : s.round.owedLowering with
    | true =>
      have hnone : s.finishShare.owedApplied.test.context = none := by
        rw [State.owedApplied, if_pos (by rw [hown, howed])]
        exact State.applyLowering_aborts hc (by dsimp only; rw [hfeedKept]; exact hlow.1) hlow.2
      exact State.lowered_context hnone
    | false =>
      have htaken : s.finishShare.owedApplied = s.finishShare := State.owedApplied_of_none (by rw [hown, howed])
      have hdue : point = true := by simpa [lowers, howed] using hl
      rw [State.lowered, hpoint, hdue, if_pos rfl, htaken]
      exact State.applyLowering_aborts hc (by dsimp only; rw [hfeedKept]; exact hlow.1) hlow.2
  · rw [(State.raiseCarry_frame _).2.1, State.runPoints_eq, hraises.trans hr, if_pos rfl, State.applyRaising_supply]
    simp
  · have hstatus : s.finishShare.owedApplied.runPoints.raiseCarry.status = s.finishShare.owedApplied.runPoints.status := by simp
    rw [hstatus, State.runPoints_eq, hraises.trans hr, if_pos rfl, State.applyRaising_eq]
    exact State.requestStatus_asks _
  · obtain ⟨howed, hno⟩ : s.round.owedLowering = false ∧ point = false := by simpa [lowers] using hnot
    have hsame : s.finishShare.owedApplied.runPoints = s.finishShare := by
      rw [State.runPoints_of_not_raising (hraises.trans hnot'), State.lowered, hpoint, hno, if_neg (by simp),
        State.owedApplied_of_none (by rw [hown, howed])]
    rw [hsame, State.raiseCarry_eq]
    exact ⟨rfl, rfl, rfl, rfl⟩
  · rw [State.runPoints_of_not_raising (hraises.trans hnot)]
    exact ⟨by simp, by simp⟩
  · apply State.eq_of_blocks <;> simp

end Sys2Proof.Machine

end

section
/-! ## The converter at a measurement event: the ways a sample is taken -/

namespace Sys2Proof.Machine

/-! ### The battery monitor under a move of the converter (R131, R132) -/

/-- The charge switch examined, or the battery monitor left as it is (R131). -/
def BattExamined (b b' : BatteryState) : Prop :=
  b' = b ∨ ∃ (closes : Bool) (limit : Nat), b' = { b with
    charge := if closes then .closed else .opened
    conduction := if closes ∧ b.charge = .closed then b.conduction else 0
    chargeLimit := limit }

section
variable {s : State}

theorem State.examineCharge_examined (s : State) : BattExamined s.batt s.examineCharge.batt := by
  refine .inr ⟨s.chargeCloses, s.chargeLimitNow, ?_⟩
  rw [State.examineCharge_batt]
  cases s.chargeCloses <;> simp

/-- What an examination of the charge switch leaves, and what it makes of its conduction (R131, R132). -/
theorem BattExamined.kept {b b' : BatteryState} (h : BattExamined b b') : b'.window = b.window ∧ b'.evalCount = b.evalCount ∧ b'.band = b.band
    ∧ b'.hold = b.hold ∧ b'.discharge = b.discharge ∧ (b.charge = .closed → b'.charge = .closed → b'.conduction = b.conduction)
    ∧ (b.charge ≠ b'.charge → b'.conduction = 0) := by
  rcases h with rfl | ⟨closes, limit, rfl⟩
  · simp
  · cases closes <;> simp +contextual

theorem BattExamined.eq {b b' : BatteryState} (h : BattExamined b b') :
    b' = { b with charge := b'.charge, conduction := b'.conduction, chargeLimit := b'.chargeLimit } := by
  rcases h with rfl | ⟨closes, limit, rfl⟩
  · rfl
  · rfl

theorem State.setSetpoints_examined (s : State) (feed charge : Nat) : BattExamined s.batt (s.setSetpoints feed charge).batt := by
  unfold State.setSetpoints
  dsimp only
  split
  · exact .inl rfl
  · exact State.examineCharge_examined { s with conv := { s.conv with
      feedSetpoint := feed, chargeSetpoint := charge, command := if feed + charge = 0 then 0 else s.conv.command } }

theorem State.converterStops_examined (s : State) (m : ConverterMode) : BattExamined s.batt (s.converterStops m).batt := by
  have h := State.setSetpoints_examined { s.gatesOff with conv := { s.gatesOff.conv with mode := m } } 0 0
  simpa [State.converterStops] using h

/-- A converter that stops from a charge setpoint of 0 has nothing examined. -/
theorem State.converterStops_batt_of_zero (hzero : s.conv.chargeSetpoint = 0) (m : ConverterMode) : (s.converterStops m).batt = s.batt := by
  have hkept : s.gatesOff.conv.chargeSetpoint = 0 := (State.gatesOff_conv s).2.2.1.trans hzero
  unfold State.converterStops State.setSetpoints
  dsimp only
  rw [if_pos hkept.symm]
  simp

section
variable (hfree : s.test.context = none)

include hfree

theorem State.leaveRun_of_free (m : ConverterMode) : s.leaveRun m = s.converterStops m :=
  State.abortTest_of_none _ _ (by simpa using hfree)

/-- With no test in flight an entry into RUN, or the latch that ends it at once, concerns converter and charge switch alone. -/
theorem State.enterRun_of_free : s.enterRun.term = s.term ∧ s.enterRun.test = s.test ∧ BattExamined s.batt s.enterRun.batt
    ∧ s.enterRun.conv.window = s.conv.window ∧ s.enterRun.conv.timeBase = s.conv.timeBase ∧ s.enterRun.conv.command = 0 := by
  have hexamined : BattExamined s.batt s.runEntered.batt := by
    simpa [State.runEntered] using State.setSetpoints_examined { s with conv := { s.conv with mode := .run, command := 0 } } 0 0
  have hentered : s.enterRun = if s.pins.riserHigh then s.runEntered.leaveRun .held else s.runEntered := rfl
  rw [hentered]
  split
  · rw [State.leaveRun_of_free (by simpa [State.runEntered] using hfree)]
    obtain ⟨-, -, -, -, -, -, -, hwindow, hbase, -⟩ := s.runEntered.converterStops_conv .held
    refine ⟨by simp [State.runEntered], by simp [State.runEntered], ?_, hwindow.trans (by simp [State.runEntered]),
      hbase.trans (by simp [State.runEntered]), by simp [State.converterStops]⟩
    rw [State.converterStops_batt_of_zero (by simp [State.runEntered])]
    exact hexamined
  · exact ⟨by simp [State.runEntered], by simp [State.runEntered], hexamined, by simp [State.runEntered], by simp [State.runEntered],
      by simp [State.runEntered]⟩

end

end

/-! ### The converter's sample (R111 to R116) -/

section
variable {s : State} (voltage current : Nat)

/-- The riser is fit by its absent mean with the sample of this event (R112). -/
abbrev State.FitAt (s : State) (voltage : Nat) : Prop := riserFit (pushWindow 16 s.conv.window voltage) = true

theorem State.modeSampled_ramps (hmode : s.conv.mode = .run) (hfit : s.FitAt voltage) :
    s.modeSampled voltage current = ((s.riserSampled voltage).regulate current).ramp := by
  rw [State.modeSampled, hmode]
  exact if_pos hfit

theorem State.modeSampled_stops (hmode : s.conv.mode = .run ∨ (s.conv.mode = .idle ∧ s.supply.mains = .absent)) (hfit : ¬ s.FitAt voltage) :
    s.modeSampled voltage current = (s.riserSampled voltage).leaveRun .riserAbsent
      ∨ s.modeSampled voltage current = (s.riserSampled voltage).converterStops .riserAbsent := by
  rcases hmode with h | ⟨h, hmains⟩
  · rw [State.modeSampled, h]
    exact .inl (if_neg hfit)
  · rw [State.modeSampled, h]
    dsimp only
    rw [if_pos (by simp [State.inOutage, hmains])]
    exact .inr (if_neg hfit)

theorem State.modeSampled_enters (hmode : s.conv.mode = .riserAbsent ∨ (s.conv.mode = .idle ∧ s.supply.mains = .absent))
    (hfit : s.FitAt voltage) : s.modeSampled voltage current = (s.riserSampled voltage).enterRun := by
  rcases hmode with h | ⟨h, hmains⟩
  · rw [State.modeSampled, h]
    exact if_pos hfit
  · rw [State.modeSampled, h]
    dsimp only
    rw [if_pos (by simp [State.inOutage, hmains])]
    exact if_pos hfit

theorem State.modeSampled_rests (hmode : s.conv.mode = .held ∨ s.conv.mode = .disabled ∨ (s.conv.mode = .idle ∧ s.supply.mains = .present)
      ∨ (s.conv.mode = .riserAbsent ∧ ¬ s.FitAt voltage)) : s.modeSampled voltage current = s.riserSampled voltage := by
  rcases hmode with h | h | ⟨h, hmains⟩ | ⟨h, hfit⟩
  · rw [State.modeSampled, h]
  · rw [State.modeSampled, h]
  · rw [State.modeSampled, h]
    exact if_neg (by simp [State.inOutage, hmains])
  · rw [State.modeSampled, h]
    exact if_neg hfit

/-- Every converter state takes its sample in one of these ways. -/
theorem State.modeSampled_cases (s : State) : (s.conv.mode = .run ∧ s.FitAt voltage)
    ∨ ((s.conv.mode = .run ∨ (s.conv.mode = .idle ∧ s.supply.mains = .absent)) ∧ ¬ s.FitAt voltage)
    ∨ ((s.conv.mode = .riserAbsent ∨ (s.conv.mode = .idle ∧ s.supply.mains = .absent)) ∧ s.FitAt voltage)
    ∨ (s.conv.mode = .held ∨ s.conv.mode = .disabled ∨ (s.conv.mode = .idle ∧ s.supply.mains = .present)
      ∨ (s.conv.mode = .riserAbsent ∧ ¬ s.FitAt voltage)) := by
  by_cases hfit : s.FitAt voltage <;> cases s.conv.mode <;> cases s.supply.mains <;> simp [State.FitAt] at hfit <;> simp [State.FitAt, hfit]

/-- The setpoints and the command of a RUN converter that regulates and ramps (R115, R116). -/
theorem State.ramped_conv (hmode : s.conv.mode = .run) (hfit : s.FitAt voltage) : (s.modeSampled voltage current).conv = { s.conv with
    window := pushWindow 16 s.conv.window voltage
    feedSetpoint := min s.feedTarget (s.conv.feedSetpoint + 4)
    chargeSetpoint := min s.chargeTarget (s.conv.chargeSetpoint + 4)
    command := if min s.feedTarget (s.conv.feedSetpoint + 4) + min s.chargeTarget (s.conv.chargeSetpoint + 4) = 0 then 0
      else commandStep s.conv.command (s.conv.feedSetpoint + s.conv.chargeSetpoint) current s.conv.railLimited } := by
  rw [State.modeSampled_ramps voltage current hmode hfit, State.ramp, State.setSetpoints_conv]
  rfl

end

/-- A value that is given twice is given where either condition holds. -/
theorem ite_of_either (p q : Prop) [Decidable p] [Decidable q] (a b : Nat) : (if p then a else if q then a else b) = if p ∨ q then a else b := by
  by_cases hp : p <;> simp [hp]

theorem commandStep_eq (command sum current : Nat) (limited : Bool) : commandStep command sum current limited
    = if sum = 0 then 0 else if 4 * sum < current then command - 1
      else if current < 4 * sum ∧ limited = false then min 64 (command + 1) else command := by
  unfold commandStep
  cases limited <;> simp

theorem conductionStep_eq (level limit : Nat) (current : Int) : conductionStep level limit current
    = if (limit : Int) < -current then level - 1 else if -current < (limit : Int) then min 16 (level + 1) else level := rfl

end Sys2Proof.Machine

end

section
/-! ## A measurement event with no test in flight -/

namespace Sys2Proof.Machine

section
variable {s : State} (voltage current : Nat)

/-- With no test in flight the converter's sample leaves terminal and test unit, window and time base apart from its own sample, and examines
the charge switch at most (R112 to R116, R131). -/
theorem State.modeSampled_of_free (hfree : s.test.context = none) : (s.modeSampled voltage current).term = s.term
    ∧ (s.modeSampled voltage current).test = s.test ∧ BattExamined s.batt (s.modeSampled voltage current).batt
    ∧ (s.modeSampled voltage current).conv.window = pushWindow 16 s.conv.window voltage
    ∧ (s.modeSampled voltage current).conv.timeBase = s.conv.timeBase := by
  have hsampled : (s.riserSampled voltage).test.context = none := hfree
  have hstopped (m : ConverterMode) : ((s.riserSampled voltage).converterStops m).term = s.term
      ∧ ((s.riserSampled voltage).converterStops m).test = s.test
      ∧ BattExamined s.batt ((s.riserSampled voltage).converterStops m).batt
      ∧ ((s.riserSampled voltage).converterStops m).conv.window = pushWindow 16 s.conv.window voltage
      ∧ ((s.riserSampled voltage).converterStops m).conv.timeBase = s.conv.timeBase := by
    obtain ⟨-, -, -, -, -, -, -, hwindow, hbase, -⟩ := (s.riserSampled voltage).converterStops_conv m
    exact ⟨by simp [State.riserSampled], by simp [State.riserSampled], (s.riserSampled voltage).converterStops_examined m, hwindow, hbase⟩
  obtain ⟨hmode, hfit⟩ | ⟨hmode, hfit⟩ | ⟨hmode, hfit⟩ | hmode := State.modeSampled_cases voltage s
  · have hconv := State.ramped_conv voltage current hmode hfit
    have hramps := State.modeSampled_ramps voltage current hmode hfit
    refine ⟨?_, ?_, ?_, by rw [hconv], by rw [hconv]⟩
    · rw [hramps]
      simp [State.ramp, State.regulate, State.riserSampled]
    · rw [hramps]
      simp [State.ramp, State.regulate, State.riserSampled]
    · rw [hramps]
      exact State.setSetpoints_examined ((s.riserSampled voltage).regulate current) _ _
  · obtain h | h := State.modeSampled_stops voltage current hmode hfit
    · rw [h, State.leaveRun_of_free hsampled]
      exact hstopped _
    · rw [h]
      exact hstopped _
  · obtain ⟨hterm, htest, hbatt, hwindow, hbase, -⟩ := State.enterRun_of_free hsampled
    rw [State.modeSampled_enters voltage current hmode hfit]
    exact ⟨hterm, htest, hbatt, hwindow, hbase⟩
  · rw [State.modeSampled_rests voltage current hmode]
    exact ⟨rfl, rfl, .inl rfl, rfl, rfl⟩

/-- The converter's state and setpoints after a sample with a riser that is not fit (R113, R114). -/
theorem State.modeSampled_conv_of_stops (hmode : s.conv.mode = .run ∨ (s.conv.mode = .idle ∧ s.supply.mains = .absent))
    (hfit : ¬ s.FitAt voltage) : (s.modeSampled voltage current).conv.mode = .riserAbsent
      ∧ (s.modeSampled voltage current).conv.feedSetpoint = 0 ∧ (s.modeSampled voltage current).conv.chargeSetpoint = 0
      ∧ (s.modeSampled voltage current).conv.gateHigh = false ∧ (s.modeSampled voltage current).conv.gateLow = false := by
  obtain h | h := State.modeSampled_stops voltage current hmode hfit
  · obtain ⟨hm, hhigh, hlow, hfeed, hcharge, -⟩ := (s.riserSampled voltage).leaveRun_stopped .riserAbsent
    rw [h]
    exact ⟨hm, hfeed, hcharge, hhigh, hlow⟩
  · obtain ⟨hm, hhigh, hlow, hfeed, hcharge, -⟩ := (s.riserSampled voltage).converterStops_conv .riserAbsent
    rw [h]
    exact ⟨hm, hfeed, hcharge, hhigh, hlow⟩

end

/-! ### A measurement event with no test in flight -/

theorem State.converterSample_conv (s : State) (voltage current : Nat) : (s.converterSample voltage current).conv
    = { (s.modeSampled voltage current).conv with railLimited := false } := rfl

theorem exec_measurementEvent {s : State} {tb : TimeBase} (m : Samples) (hrun : s.supply.power = .running)
    (hbase : s.conv.timeBase = some tb) (hdue : tb.nextMeasure ≤ s.clock) :
    exec (.measurementEvent m) s = .next (s.measured tb (saturate m)).askSleep := by
  rw [exec, execMeasurementEvent, whenRunning_of_running _ hrun, hbase]
  exact congrArg (Host.Outcome.next ∘ State.askSleep) (if_pos hdue)

theorem State.measured_of_free {s : State} (tb : TimeBase) (m : Samples) (hfree : s.test.context = none) :
    s.measured tb m = ((s.offered tb m).converterSample m.riserVoltage m.riserCurrent).raiseCarry := by
  have hnone : (s.offered tb m).test.context = none := hfree
  rw [State.measured_eq]
  unfold State.testSample
  rw [hnone]

theorem State.offered_feedTarget (s : State) (tb : TimeBase) (m : Samples) : (s.offered tb m).feedTarget = s.feedTarget := rfl

theorem State.offered_chargeTarget (s : State) (tb : TimeBase) (m : Samples) : (s.offered tb m).chargeTarget = s.chargeTarget := rfl

/-- Settles O34. -/
theorem measurementEventFeedsBlocks : Obligations.MeasurementEventFeedsBlocks := by
  intro m s tb hrun hbase hdue hfree volts current charging w sum feed charge
  let u := s.offered tb (saturate m)
  have hcontext : u.test.context = none := hfree
  obtain ⟨hterm, htest, hexamined, hwindow, htimeBase⟩ := State.modeSampled_of_free (s := u) volts current hcontext
  obtain ⟨hbattWindow, hevents, -, -, -, hclosed, hmoved⟩ := hexamined.kept
  let t := (u.converterSample volts current).raiseCarry
  have hconv : t.conv = { (u.modeSampled volts current).conv with railLimited := false } := by
    simp only [t, State.raiseCarry_frame, State.converterSample_conv]
  have hbatt : t.batt = (u.modeSampled volts current).batt := by simp [t, State.converterSample_eq]
  refine ⟨t, ?_, ?_, ?_, ?_, ?_, ?_, ?_, fun hmode hfit => ?_, fun hmode hfit => ?_, fun hmode hfit => ?_, fun hmode => ?_, ?_, ?_, ?_⟩
  · rw [exec_measurementEvent m hrun hbase hdue, State.measured_of_free tb _ hfree]
    rfl
  · rw [hbatt, hbattWindow]
    rfl
  · rw [hbatt, hevents]
    rfl
  · simp [t, u, State.offered, State.batterySample, State.nextMeasurement, volts, saturate]
  · rw [hconv]
    exact hwindow
  · rw [hconv]
    exact htimeBase
  · rw [hconv]
  · have hramped := State.ramped_conv (s := u) volts current hmode hfit
    rw [hconv, hramped]
    refine ⟨hmode, rfl, rfl, ?_⟩
    show (if feed + charge = 0 then 0 else commandStep s.conv.command sum current s.conv.railLimited) = _
    rw [commandStep_eq]
    exact ite_of_either _ _ _ _
  · have hstopped := State.modeSampled_conv_of_stops (s := u) volts current hmode (Bool.eq_false_iff.mp hfit)
    rw [hconv]
    exact hstopped
  · obtain ⟨hm, hf, hc, -⟩ := (u.riserSampled volts).enterRun_conv
    obtain ⟨-, -, -, -, -, hcommand⟩ := State.enterRun_of_free (s := u.riserSampled volts) hcontext
    rw [hconv, State.modeSampled_enters (s := u) volts current hmode hfit]
    have hhigh : (u.riserSampled volts).pins.riserHigh = decide (6000 < volts) := rfl
    refine ⟨hm.trans ?_, hf, hc, hcommand⟩
    rw [hhigh]
    simp only [decide_eq_true_eq]
  · have hrests := hmode.imp_right (Or.imp_right (Or.imp_right (And.imp_right Bool.eq_false_iff.mp)))
    rw [hconv, State.modeSampled_rests (s := u) volts current hrests]
    rfl
  · intro hs ht
    rw [hbatt] at ht ⊢
    rw [hclosed hs ht]
    show (if s.batt.charge = .closed then conductionStep s.batt.conduction s.batt.chargeLimit _ else s.batt.conduction) = _
    rw [if_pos hs, conductionStep_eq]
    rfl
  · rw [hbatt]
    exact hmoved
  · have hterms : t.term = s.term := by
      simp only [t, State.raiseCarry_frame]
      exact hterm
    have htests : t.test = { s.test with carry := t.test.carry } := by
      have hkept : (u.converterSample volts current).test = s.test := htest
      simp only [t, State.raiseCarry_test, hkept]
    have hpins : t.pins = { s.pins with riserHigh := decide (6000 < volts) } := by
      simp only [t, State.raiseCarry_frame, State.converterSample_frame]
      rfl
    apply State.eq_of_blocks <;> simp only [hterms, hpins, ← htests]
    all_goals simp [t, u, State.offered, State.batterySample, State.nextMeasurement, volts, saturate]
end Sys2Proof.Machine

end

section
/-! ## A measurement event with a test in flight -/

namespace Sys2Proof.Machine

section
variable {s : State}

/-! ### What the test unit takes of a measurement event (R153 to R155) -/

/-- A pulse test that has ended with a verdict and a next due time: the test unit at rest, the band hold released (R129, R154, R156). -/
structure PulseEnded (s u : State) (c : TestContext) (verdict : Verdict) (next : Option Time) : Prop where
  window : u.batt.window = if s.batt.hold then [] else s.batt.window
  evalCount : u.batt.evalCount = if s.batt.hold then 0 else s.batt.evalCount
  hold : u.batt.hold = false
  context : u.test.context = none
  gate : u.test.gate = false
  carry : u.test.carry = false
  carryCount : u.test.carryCount = 0
  schedule : u.test.schedule = next
  due : u.test.due = false
  result : s.term.wakePending = false ∨ verdict = .notCarried → u.test.results.head? = some
    { kind := .pulse, verdict := verdict, value := none, round := s.round.number, band := c.startBand }

/-- The record of an abort is written after the blocks are told, and so stands at the head of the list (R156, log 40). -/
theorem PulseEnded.of_abort {c : TestContext} (hcontext : s.test.context = some c) (next : Option Time) :
    PulseEnded s (s.abortTestDue .notCarried next) c .notCarried next := by
  obtain ⟨hnone, hgate, hcarry, hcount, -⟩ := s.endTest_test
  obtain ⟨hhold, -, -, hwindow, heval⟩ := s.endTest_batt
  have habort : s.abortTestDue .notCarried next = (s.endTest.addResult .pulse .notCarried none c.startBand).setDue next := by
    rw [State.abortTestDue, hcontext]
  rw [habort]
  exact ⟨by simpa using hwindow, by simpa using heval, by simpa using hhold, by simpa using hnone, by simpa using hgate, by simpa using hcarry,
    by simpa using hcount, by simp, by simp, fun _ => by simp⟩

/-- The record of a collapse is written before the blocks are told: a wake that the end lets through may write another above it
(R154, log 40). -/
theorem PulseEnded.of_collapse (c : TestContext) : PulseEnded s (s.collapse c) c .fail (s.testInterval.map fun i => c.startTime + i) := by
  let r := (s.addResult .pulse .fail none c.startBand).setDue (s.testInterval.map fun i => c.startTime + i)
  obtain ⟨hnone, hgate, hcarry, hcount, hschedule, hdue, -⟩ := r.endTest_test
  obtain ⟨hhold, -, -, hwindow, heval⟩ := r.endTest_batt
  refine ⟨?_, ?_, hhold, hnone, hgate, hcarry, hcount, hschedule, hdue, ?_⟩
  · rw [State.collapse]
    simpa [r] using hwindow
  · rw [State.collapse]
    simpa [r] using heval
  · rintro (hpending | hverdict)
    · obtain ⟨hresults, -⟩ := State.endTest_results (s := r) (by simpa [r] using hpending)
      show r.endTest.test.results.head? = _
      rw [hresults]
      simp [r]
    · cases hverdict

theorem State.testSample_settle {c : TestContext} (hcontext : s.test.context = some c) (hphase : c.phase = .settle) (hevents : c.events < 64)
    (v : Nat) (i : Int) : s.testSample v i = if 100 < i.natAbs then s.abortTest .notCarried else s.withContext { c with
      events := c.events + 1, settleVolt := c.settleVolt + v, settleCurr := c.settleCurr + i } := by
  rw [State.testSample, hcontext]
  simp only [hphase, if_pos hevents]

theorem State.testSample_blanked {c : TestContext} (hcontext : s.test.context = some c) (hphase : c.phase = .load) (hevents : c.events < 20)
    (v : Nat) (i : Int) : s.testSample v i = s.withContext { c with events := c.events + 1 } := by
  rw [State.testSample, hcontext]
  simp only [hphase, if_pos hevents]

theorem State.testSample_load {c : TestContext} (hcontext : s.test.context = some c) (hphase : c.phase = .load) (hblank : 20 ≤ c.events)
    (hevents : c.events < 200) (v : Nat) (i : Int) : s.testSample v i = if v < fallingEdge s.chemistry .reserve then s.collapse c
      else s.withContext { c with events := c.events + 1, loadVolt := c.loadVolt + v, loadCurr := c.loadCurr + i } := by
  rw [State.testSample, hcontext]
  simp only [hphase, if_neg (Nat.not_lt.mpr hblank), if_pos hevents]

theorem State.testSample_relax {c : TestContext} (hcontext : s.test.context = some c) (hphase : c.phase = .relax) (hevents : c.events < 500)
    (v : Nat) (i : Int) : s.testSample v i = s.withContext { c with events := c.events + 1 } := by
  rw [State.testSample, hcontext]
  simp only [hphase, if_pos hevents]

/-- A phase that is complete takes no sample (log 18). -/
theorem State.testSample_complete {c : TestContext} (hcontext : s.test.context = some c) (hcomplete : (c.phase = .settle ∧ 64 ≤ c.events)
      ∨ (c.phase = .load ∧ 200 ≤ c.events) ∨ (c.phase = .relax ∧ 500 ≤ c.events)) (v : Nat) (i : Int) : s.testSample v i = s := by
  rw [State.testSample, hcontext]
  obtain ⟨hphase, hevents⟩ | ⟨hphase, hevents⟩ | ⟨hphase, hevents⟩ := hcomplete
  · simp only [hphase, if_neg (Nat.not_lt.mpr hevents)]
  · simp only [hphase, if_neg (show ¬ c.events < 20 by omega), if_neg (Nat.not_lt.mpr hevents)]
  · simp only [hphase, if_neg (Nat.not_lt.mpr hevents)]

theorem State.raiseCarry_of_barred (hbarred : s.test.context ≠ none ∨ s.test.due = false) : s.raiseCarry = s := by
  refine if_neg fun hdue => ?_
  obtain ⟨-, htime, -, -, -, hfree, -⟩ := s.carryDue_iff.1 hdue
  rcases hbarred with hcontext | hnot
  · exact hcontext hfree
  · rw [hnot] at htime
    cases htime

/-- What the test unit takes leaves a test in flight, or a next due time yet to come. -/
theorem State.testSample_barred {c : TestContext} (hcontext : s.test.context = some c) (v : Nat) (i : Int) :
    (s.testSample v i).test.context ≠ none ∨ (s.testSample v i).test.due = false := by
  have hkept : s.test.context ≠ none := by simp [hcontext]
  have hgoesOn (c' : TestContext) : (s.withContext c').test.context ≠ none := Option.some_ne_none c'
  rw [State.testSample, hcontext]
  dsimp only
  cases c.phase <;> dsimp only
  case settle =>
    split
    · split
      · exact .inr (PulseEnded.of_abort hcontext _).due
      · exact .inl (hgoesOn _)
    · exact .inl hkept
  case load =>
    split
    · exact .inl (hgoesOn _)
    · split
      · split
        · exact .inr (PulseEnded.of_collapse c).due
        · exact .inl (hgoesOn _)
      · exact .inl hkept
  case relax =>
    split
    · exact .inl (hgoesOn _)
    · exact .inl hkept

/-! ### What a RUN converter then takes (R115, R116) -/

/-- The converter of a measurement event in RUN with a fit riser. -/
def State.convMeasured (s : State) (tb : TimeBase) (voltage current : Nat) : ConverterState :=
  let feed := min s.feedTarget (s.conv.feedSetpoint + 4)
  let charge := min s.chargeTarget (s.conv.chargeSetpoint + 4)
  { s.conv with
    window := pushWindow 16 s.conv.window voltage
    timeBase := some { tb with nextMeasure := tb.nextMeasure + ms 1 }
    railLimited := false
    feedSetpoint := feed
    chargeSetpoint := charge
    command := if feed + charge = 0 then 0
      else commandStep s.conv.command (s.conv.feedSetpoint + s.conv.chargeSetpoint) current s.conv.railLimited }

/-- A measurement event in RUN with a fit riser: behind what the test unit takes, the converter's sample concerns converter and charge switch
alone (R115, R116, R131), and raises no carry request while a test is in flight or before the next due time (R151). -/
theorem State.measured_of_run {tb : TimeBase} {m : Samples} {u : State} (hu : (s.offered tb m).testSample m.battVoltage m.battCurrent = u)
    (hmode : s.conv.mode = .run) (hfit : s.FitAt m.riserVoltage) (hbarred : u.test.context ≠ none ∨ u.test.due = false) :
    ∃ (charge : Switch) (conduction limit : Nat), s.measured tb m = { u with
      conv := s.convMeasured tb m.riserVoltage m.riserCurrent
      batt := { u.batt with charge := charge, conduction := conduction, chargeLimit := limit } } := by
  have hconv : u.conv = (s.offered tb m).conv := by rw [← hu]; simp
  have hround : u.round = s.round := by rw [← hu]; simp [State.offered, State.batterySample, State.nextMeasurement]
  have hpeers : u.peers = s.peers := by rw [← hu]; simp [State.offered, State.batterySample, State.nextMeasurement]
  have hshare : u.share = s.share := by rw [← hu]; simp [State.offered, State.batterySample, State.nextMeasurement]
  have hsupply : u.supply = s.supply := by rw [← hu]; simp [State.offered, State.batterySample, State.nextMeasurement]
  have humode : u.conv.mode = .run := (congrArg _ hconv).trans hmode
  have hufit : u.FitAt m.riserVoltage := by rw [State.FitAt, hconv]; exact hfit
  have hramps := State.modeSampled_ramps m.riserVoltage m.riserCurrent humode hufit
  have hramped := State.ramped_conv m.riserVoltage m.riserCurrent humode hufit
  have hexamined : BattExamined u.batt (u.modeSampled m.riserVoltage m.riserCurrent).batt := by
    rw [hramps]
    exact State.setSetpoints_examined ((u.riserSampled m.riserVoltage).regulate m.riserCurrent) _ _
  rw [State.feedTarget_congr hround hpeers hshare (congrArg _ hsupply), State.chargeTarget_congr hround hpeers hshare (congrArg _ hsupply),
    hconv] at hramped
  let b := (u.modeSampled m.riserVoltage m.riserCurrent).batt
  refine ⟨b.charge, b.conduction, b.chargeLimit, ?_⟩
  have hafter : { (u.modeSampled m.riserVoltage m.riserCurrent).conv with railLimited := false }
      = s.convMeasured tb m.riserVoltage m.riserCurrent := by
    rw [hramped]
    rfl
  rw [State.measured_eq, hu, State.raiseCarry_of_barred, ← hexamined.eq, State.converterSample_eq, hafter]
  · apply State.eq_of_blocks <;> simp [hramps, State.ramp, State.regulate, State.riserSampled]
  · simpa [State.converterSample_eq, hramps, State.ramp, State.regulate, State.riserSampled] using hbarred

end

/-- Settles O35, by what the test unit takes. -/
theorem pulseTestTakesSamples : Obligations.PulseTestTakesSamples := by
  intro m s tb c hrun hbase hdue hcontext hmode hfit v i edge volts current sum feed charge goesOn ends
  let o := s.offered tb (saturate m)
  let u := o.testSample v i
  have hoffered : o.test.context = some c := hcontext
  have hedge : fallingEdge o.chemistry .reserve = edge := by
    show fallingEdge s.chemistry .reserve = edge
    cases hchemistry : s.chemistry <;> simp [edge, hchemistry, fallingEdge]
  have hu : u = o.testSample v i := rfl
  have hbarred : u.test.context ≠ none ∨ u.test.due = false := State.testSample_barred hoffered v i
  obtain ⟨switch, conduction, limit, ht⟩ := State.measured_of_run (u := u) hu.symm hmode hfit hbarred
  have hgoesOn (c' : TestContext) (h : u = o.withContext c') : goesOn c' (s.measured tb (saturate m)) := by
    rw [ht, h]
    simp [goesOn, State.withContext, o, State.offered, State.batterySample, State.nextMeasurement, saturate, v]
  have hends (verdict : Verdict) (next : Option Time) (h : PulseEnded o u c verdict next) :
      ends verdict next (s.measured tb (saturate m)) := by
    rw [ht]
    refine ⟨h.window, h.evalCount, h.context, h.gate, h.hold, h.carry, h.carryCount, h.schedule, h.due, h.result, ?_⟩
    apply State.eq_of_blocks <;> simp [u]
    all_goals simp [o, State.offered, State.batterySample, State.nextMeasurement]
  refine ⟨s.measured tb (saturate m), exec_measurementEvent m hrun hbase hdue, ?_, ?_, ?_, ?_, fun hphase hevents hcurrent _ => ?_,
    fun hphase hevents hcurrent => ?_, fun hphase hevents => ?_, fun hphase hblank hevents hvolts => ?_,
    fun hphase hblank hevents hvolts => ?_, fun hphase hevents => ?_, fun hcomplete => ?_⟩
  · have hcommand : (if feed + charge = 0 then 0 else commandStep s.conv.command sum current s.conv.railLimited)
        = if feed + charge = 0 ∨ sum = 0 then 0 else if 4 * sum < current then s.conv.command - 1
          else if current < 4 * sum ∧ s.conv.railLimited = false then min 64 (s.conv.command + 1) else s.conv.command := by
      rw [commandStep_eq]
      exact ite_of_either _ _ _ _
    rw [ht, ← hcommand]
    rfl
  · rw [ht]
    simp only [u, State.testSample_frame]
    rfl
  · rw [ht]
    simp [u, o, State.offered, State.batterySample, State.nextMeasurement, saturate, volts]
  · rw [ht]
    simp [u, o, State.offered, State.batterySample, State.nextMeasurement]
  · refine hends _ _ ?_
    rw [hu, State.testSample_settle hoffered hphase hevents, if_pos hcurrent]
    exact PulseEnded.of_abort hoffered _
  · refine hgoesOn _ ?_
    rw [hu, State.testSample_settle hoffered hphase hevents, if_neg (Nat.not_lt.mpr hcurrent)]
  · exact hgoesOn _ (State.testSample_blanked hoffered hphase hevents v i)
  · refine hgoesOn _ ?_
    rw [hu, State.testSample_load hoffered hphase hblank hevents, if_neg]
    exact Nat.not_lt.mpr (hedge ▸ hvolts)
  · refine hends _ _ ?_
    rw [hu, State.testSample_load hoffered hphase hblank hevents, if_pos]
    · exact PulseEnded.of_collapse c
    · exact hedge ▸ hvolts
  · exact hgoesOn _ (State.testSample_relax hoffered hphase hevents v i)
  · refine hgoesOn _ ?_
    rw [hu, State.testSample_complete hoffered hcomplete]
    simp only [State.withContext, ← hoffered]

end Sys2Proof.Machine

end

section
/-! ## A completed frame, the time base and the peer table at a reference -/

namespace Sys2Proof.Machine

/-! ### A frame that completes, whatever the counts (R83, R86, R100, R101) -/

/-- The line controller of a completed frame, also where its counts take the station off the line. -/
theorem LineState.ended_reread (l : LineState) : l.ended.reread.phase = .gap ∧ l.ended.reread.role = .none
    ∧ l.ended.reread.driver = .recessive ∧ l.ended.reread.frameStart = l.frameStart ∧ l.ended.reread.stuck = l.stuck
    ∧ l.ended.reread.txErrors = (if l.role = .transmitter then l.txErrors - 1 else l.txErrors)
    ∧ l.ended.reread.rxErrors = (if l.role = .transmitter then l.rxErrors else l.rxErrors - 1)
    ∧ l.ended.reread.unheard = (if l.role = .transmitter ∧ l.ackSampled = .recessive then min 255 (l.unheard + 1) else l.unheard) := by
  have hended : l.ended.phase = .gap ∧ l.ended.role = .none ∧ l.ended.driver = .recessive ∧ l.ended.frameStart = l.frameStart ∧ l.ended.stuck = l.stuck
      ∧ l.ended.txErrors = (if l.role = .transmitter then l.txErrors - 1 else l.txErrors)
      ∧ l.ended.rxErrors = (if l.role = .transmitter then l.rxErrors else l.rxErrors - 1)
      ∧ l.ended.unheard = (if l.role = .transmitter ∧ l.ackSampled = .recessive then min 255 (l.unheard + 1) else l.unheard) := by
    simp [LineState.ended, sat255, Nat.min_comm]
  obtain ⟨hphase, hrole, hdriver, hstart, hstuck, htx, hrx, hunheard⟩ := hended
  have hkept (l' : LineState) (h : l' = { l.ended with
      queue := l'.queue, unsent := l'.unsent, confinement := l'.confinement, driveTime := l'.driveTime, failed := l'.failed
      extraWait := l'.extraWait, recoveryRuns := l'.recoveryRuns, recoveryBits := l'.recoveryBits }) : l'.phase = .gap ∧ l'.role = .none
        ∧ l'.driver = .recessive ∧ l'.frameStart = l.frameStart ∧ l'.stuck = l.stuck
        ∧ l'.txErrors = (if l.role = .transmitter then l.txErrors - 1 else l.txErrors)
        ∧ l'.rxErrors = (if l.role = .transmitter then l.rxErrors else l.rxErrors - 1)
        ∧ l'.unheard = (if l.role = .transmitter ∧ l.ackSampled = .recessive then min 255 (l.unheard + 1) else l.unheard) := by
    rw [h]
    exact ⟨hphase, hrole, hdriver, hstart, hstuck, htx, hrx, hunheard⟩
  apply hkept
  unfold LineState.reread
  split
  · rfl
  · split
    · simp [LineState.wentOffline, LineState.clearQueue, LineState.dropTo, LineState.withQueue, hphase, hrole, hdriver]
    · rfl
    · rfl

section
variable {s : State}

/-- With no test in flight a completed frame leaves the test unit alone (R103, R156). -/
theorem State.completeFrame_of_free (hfree : s.test.context = none) : s.completeFrame.test = s.test := by
  have hread (u : State) (hu : u.test.context = none) : u.readConfinement.test = u.test := by
    unfold State.readConfinement
    split
    · rfl
    · split
      · rw [State.enterOffline, State.abortTest_of_none _ _ (by exact hu)]
      · rfl
      · rfl
  exact hread _ hfree

/-! ### The time base and the test unit at the end of a round (R14, R110) -/

theorem State.retarget_timeBase (s : State) : s.retarget.conv.timeBase = s.conv.timeBase := by
  unfold State.retarget
  split <;> simp

theorem State.enterRun_timeBase (s : State) : s.enterRun.conv.timeBase = s.conv.timeBase := by
  have hentered : s.enterRun = if s.pins.riserHigh then s.runEntered.leaveRun .held else s.runEntered := rfl
  obtain ⟨-, -, -, -, -, -, -, -, hbase, -⟩ := s.runEntered.converterStops_conv .held
  have hrun : s.runEntered.conv.timeBase = s.conv.timeBase := by simp [State.runEntered]
  rw [hentered]
  split
  · simpa [State.leaveRun, hrun] using hbase
  · exact hrun

theorem State.intervalBoundary_timeBase (s : State) : s.intervalBoundary.conv.timeBase = s.conv.timeBase := by
  rw [State.intervalBoundary_eq]
  split
  · split
    · exact State.enterRun_timeBase _
    · rfl
  · rfl

theorem State.applyLowering_timeBase (s : State) : s.applyLowering.conv.timeBase = s.conv.timeBase := by
  have hconv : s.applyLowering.conv = s.loweredDown.conv := by
    rw [State.applyLowering_eq, ← State.testLowered_conv]
    simp
  rw [hconv, State.loweredDown, State.intervalBoundary_timeBase, State.retarget_timeBase]
  rfl

theorem State.closeRound_timeBase (s : State) : s.closeRound.conv.timeBase = s.conv.timeBase := by
  unfold State.closeRound
  dsimp only
  rw [State.retarget_timeBase]
  simp

/-- The end of the round before re-aligns nothing (R14). -/
theorem State.settlePrevious_timeBase (s : State) : s.settlePrevious.conv.timeBase = s.conv.timeBase := by
  have hclosed : s.closedIfPending.conv.timeBase = s.conv.timeBase := by
    unfold State.closedIfPending
    split
    · exact s.closeRound_timeBase
    · rfl
  rw [State.settlePrevious_eq]
  dsimp only
  split
  · split
    · exact hclosed
    · rw [State.applyLowering_timeBase]
      exact hclosed
  · exact hclosed

/-- What the snapshot of a reference reads of the test unit, with no test in flight: the round before leaves it (R14, R151). -/
theorem State.settlePrevious_of_free (hfree : s.test.context = none) : s.settlePrevious.test.context = none
    ∧ s.settlePrevious.test.carry = s.test.carry ∧ s.settlePrevious.test.carryCount = s.test.carryCount
    ∧ s.settlePrevious.test.inHand = s.test.inHand := by
  have hclosed : s.closedIfPending.test = s.test := by
    unfold State.closedIfPending
    split <;> simp
  have hlowered (u : State) (hu : u.test = s.test) : u.applyLowering.test.context = none ∧ u.applyLowering.test.carry = s.test.carry
      ∧ u.applyLowering.test.carryCount = s.test.carryCount ∧ u.applyLowering.test.inHand = s.test.inHand := by
    have hnone : u.test.context = none := by rw [hu, hfree]
    obtain ⟨-, htest⟩ := State.loweredDown_of_free hnone
    rw [State.applyLowering_of_free hnone]
    simp [htest, hu, hfree]
  rw [State.settlePrevious_eq]
  dsimp only
  split
  · split
    · simp [hclosed, hfree]
    · exact hlowered _ hclosed
  · simp [hclosed, hfree]

end

/-! ### The peer table at a reference (R32) -/

theorem PeerState.examine_records (p : PeerState) (number : BitVec 8) : (p.examine number).records
    = p.records.map fun e => if e.2.lastHeard = some number then e else (e.1, { e.2 with
        feed := e.2.feed.map fun x => { x with heard := false }
        charge := e.2.charge.map fun x => { x with heard := false } }) := rfl

/-- The heard mask loses the entries of the records whose round number last heard is another (R32). -/
theorem PeerState.examine_heard (p : PeerState) (number : BitVec 8) (a : Addr) : maskHas (p.examine number).heard a
    = (maskHas p.heard a && p.records.all fun e => decide (e.1 ≠ a) || decide (e.2.lastHeard = some number)) := by
  have hfold (l : List (Addr × PeerRecord)) (m : BitVec 64) :
      maskHas (l.foldl (fun m e => if e.2.lastHeard = some number then m else maskClear m e.1) m) a
        = (maskHas m a && l.all fun e => decide (e.1 ≠ a) || decide (e.2.lastHeard = some number)) := by
    induction l generalizing m with
    | nil => simp
    | cons e l ih =>
      rw [List.foldl_cons, ih, List.all_cons]
      by_cases hlast : e.2.lastHeard = some number <;> simp [hlast, Bool.and_left_comm, Bool.and_assoc]
  exact hfold p.records p.heard

/-! ### The converter's grid at a reference (R110) -/

/-- The first boundary of the new grid that lies 10 µs or more on. -/
theorem nextBoundary_first (t0 now : Time) : ∃ k, nextBoundary t0 now = t0 + 64 * k ∧ now + 32 ≤ t0 + 64 * k
    ∧ ∀ j, j < k → t0 + 64 * j < now + 32 := by
  refine ⟨(now + 32 - t0 + 63) / 64, rfl, ?_, fun j hj => ?_⟩
  · unfold Time at *
    omega
  · unfold Time at *
    omega

end Sys2Proof.Machine

end

section
/-! ## The reference and the snapshot of a taken opening frame -/

namespace Sys2Proof.Machine

/-! ### An opening frame taken as the reference (R9, R18) -/

/-- LISTEN left for MEMBER at a reference (R18). -/
def State.joined (s : State) : State := { s with round := { s.round with
  participation := if s.round.participation = .listen then .member else s.round.participation
  joinTimer := if s.round.participation = .listen then none else s.round.joinTimer } }

section
variable {s : State} {o : Opening}

theorem State.completeFrame_stuck (s : State) : s.completeFrame.line.stuck = s.line.stuck := by
  obtain ⟨-, -, -, -, hstuck, -⟩ := s.line.ended_reread
  rw [State.completeFrame_line]
  exact hstuck

/-- A valid opening frame that is the station's own as transmitter, or another's, is no address clash (R19). -/
theorem State.openingCompletes_of_mine (hmine : s.line.role = .transmitter ∨ o.addr ≠ s.address) : s.openingCompletes o =
    if s.line.stuck then s.completeFrame.frameEnded else (s.completeFrame.joined.takeReference o).settleRepeat := by
  have hclash : ¬ (!decide (s.line.role = .transmitter) && decide (o.addr = s.completeFrame.address)) = true := by
    have haddress : s.completeFrame.address = s.address := by simp [State.address]
    rw [haddress]
    rcases hmine with h | h <;> simp [h]
  unfold State.openingCompletes
  dsimp only
  rw [if_neg hclash, State.completeFrame_stuck]
  split
  · rfl
  · split
    next hlisten => simp only [State.joined, if_pos hlisten]
    next hjoined => simp only [State.joined, if_neg hjoined]

/-- The points of a round and the repeat timer have no part in the claims. -/
theorem State.freezeClaims_claims (f t : State) (ht : t = f.freezeClaims.pointsPending.settleRepeat) :
    t.feedClaim = f.feedClaim ∧ t.feedRequest = f.feedRequest ∧ t.chargeClaim = f.chargeClaim ∧ t.budgetEstimate = f.budgetEstimate
      ∧ t.demand = f.freezeClaims.demand ∧ t.test = f.test := by
  rw [ht, State.settleRepeat_eq]
  exact ⟨rfl, rfl, rfl, rfl, rfl, rfl⟩

/-- What the snapshot freezes (R57, R60). -/
theorem State.freezeClaims_demand (f : State) : f.freezeClaims.demand = { f.demand with
    claims := some
      { feedClass := f.feedClaim.1, feedRequest := f.feedRequest, charge := f.chargeClaim, estimate := f.budgetEstimate
        outage := f.supply.mains }
    claimsOpen := true
    lastCharge := f.chargeClaim.map Prod.fst
    carryFormed := decide (f.feedClaim.1 = .test) } := rfl

theorem State.takeReference_of_member (hmember : s.round.participation = .member) :
    s.takeReference o = (s.referenceTaken o).countCarry.freezeClaims.pointsPending := by
  have hkept : (s.referenceTaken o).round.participation = .member := by
    simp [State.referenceTaken, State.referenceAdopted, RoundState.dropPoints, hmember]
  rw [State.takeReference_eq, State.snapshotIfMember, if_pos hkept]
  rfl

/-! ### The station at its reference -/

@[simp] theorem State.joined_frame (s : State) : s.joined.clock = s.clock ∧ s.joined.supply = s.supply ∧ s.joined.pins = s.pins
    ∧ s.joined.peers = s.peers ∧ s.joined.share = s.share ∧ s.joined.demand = s.demand ∧ s.joined.line = s.line ∧ s.joined.conv = s.conv
    ∧ s.joined.batt = s.batt ∧ s.joined.term = s.term ∧ s.joined.test = s.test ∧ s.joined.status = s.status ∧ s.joined.pending = s.pending :=
  ⟨rfl, rfl, rfl, rfl, rfl, rfl, rfl, rfl, rfl, rfl, rfl, rfl, rfl⟩

theorem State.joined_member (s : State) : s.joined.round.participation = .member ↔ s.round.participation ≠ .muted := by
  cases h : s.round.participation <;> simp [State.joined, h]

theorem State.joined_muted (s : State) (h : s.round.participation = .muted) : s.joined.round.participation = .muted := by
  simp [State.joined, h]

/-- What a reference leaves of the blocks that its snapshot reads (R9). -/
theorem State.referenceTaken_frame (s : State) (o : Opening) : (s.referenceTaken o).clock = s.clock
    ∧ (s.referenceTaken o).supply = { s.supply with sleepRequest := false, sleepFrame := .none }
    ∧ (s.referenceTaken o).round.tempo = o.tempo ∧ (s.referenceTaken o).round.number = o.round
    ∧ (s.referenceTaken o).round.participation = s.round.participation
    ∧ (s.referenceTaken o).demand = { s.demand with claimsOpen := s.demand.claimsOpen && !s.round.closePending }
    ∧ (s.referenceTaken o).line = s.lineAtReference ∧ (s.referenceTaken o).batt.band = s.batt.band := by
  simp [State.referenceTaken, State.referenceAdopted, State.lineAtReference, RoundState.dropPoints]

/-- A reference re-aligns a converter that has a time base, from the moment the new grid begins (R110). -/
theorem State.referenceTaken_timeBase {tb : TimeBase} (hbase : s.conv.timeBase = some tb) : (s.referenceTaken o).conv.timeBase =
    some { nextPeriod := nextBoundary s.line.frameStart s.clock + s.switchOffset, nextMeasure := s.line.frameStart + ms 3 } := by
  have hadopted : (s.referenceAdopted o).conv.timeBase = some tb := by
    rw [← hbase]
    exact State.settlePrevious_timeBase { s with line := s.line.dropOpenings }
  have hstart : (s.referenceAdopted o).round.t0 = s.line.frameStart := by
    simp only [State.referenceAdopted, State.clearSleepRequest_frame, State.settlePrevious_line]
    split <;> rfl
  have hkept : (s.referenceTaken o).conv.timeBase = (s.referenceAdopted o).realign.conv.timeBase := by
    simp only [State.referenceTaken, State.raiseCarry_frame, State.retarget_timeBase]
  rw [hkept, State.realign, hadopted]
  have haddress : (s.referenceAdopted o).switchOffset = s.switchOffset := by
    simp [State.switchOffset, State.address, State.referenceAdopted]
  have hclock : (s.referenceAdopted o).clock = s.clock := by simp [State.referenceAdopted]
  dsimp only
  rw [hstart, haddress, hclock]

/-- A carry request that stands with no test in flight still stands at the snapshot, its count as it was (R151). -/
theorem State.referenceTaken_of_free (hfree : s.test.context = none) (hcarry : s.test.carry = true) :
    (s.referenceTaken o).test.context = none ∧ (s.referenceTaken o).test.carry = true
      ∧ (s.referenceTaken o).test.carryCount = s.test.carryCount ∧ (s.referenceTaken o).test.inHand = s.test.inHand := by
  obtain ⟨hnone, hstands, hcount, hhand⟩ := State.settlePrevious_of_free (s := { s with line := s.line.dropOpenings }) hfree
  have htest : (s.referenceAdopted o).realign.retarget.test = ({ s with line := s.line.dropOpenings } : State).settlePrevious.test := by
    simp [State.referenceAdopted]
  rw [State.referenceTaken, State.raiseCarry_test, htest]
  exact ⟨hnone, by simp [hstands, hcarry], hcount, hhand⟩

/-- The carry count at a snapshot with a carry request to settle (R151). -/
theorem State.countCarry_settles (hcarry : s.test.carry = true) (hfree : s.test.context = none) (hhand : s.test.inHand = none) :
    (s.test.carryCount < 30 → s.countCarry.test = { s.test with carryCount := s.test.carryCount + 1 })
      ∧ (30 ≤ s.test.carryCount → s.countCarry.test.carry = false ∧ s.countCarry.test.carryCount = 0 ∧ s.countCarry.test.due = false
          ∧ s.countCarry.test.schedule = some (s.clock + sec 600) ∧ s.countCarry.test.results.head? = some
            { kind := .pulse, verdict := .deferred, value := none, round := s.round.number, band := s.batt.band }) := by
  have hsettles : (s.test.carry && s.test.context.isNone && s.test.inHand.isNone) = true := by simp [hcarry, hfree, hhand]
  rw [State.countCarry, if_pos hsettles]
  refine ⟨fun h => ?_, fun h => ?_⟩
  · rw [if_neg (Nat.not_le.mpr h)]
  · rw [if_pos h]
    simp

/-- The notices a snapshot queues, by the values it freezes (R64, R65, R69). -/
theorem State.snapshotNotices_eq (s : State) : s.snapshotNotices = .notice (s.ownNotice s.feedClaim.1 s.feedRequest)
    :: (if s.round.tempo = .slow ∧ s.supply.mains = .present then []
      else match s.chargeClaim with
        | some c => [.notice (s.ownNotice c.1 c.2)]
        | none => (s.demand.lastCharge.map fun c => .notice (s.ownNotice c 0)).toList) := by
  unfold State.snapshotNotices State.chargeNotice
  split
  · rfl
  · cases s.chargeClaim with
    | none => cases s.demand.lastCharge <;> rfl
    | some c => rfl

end

end Sys2Proof.Machine

end

section
/-! ## The state a valid opening frame leaves -/

namespace Sys2Proof.Machine

/-! ### A valid opening frame -/

section
variable (s : State) (o : Opening)

/-- The station as a valid opening frame leaves it (R9). -/
def State.referenced : State := (s.completeFrame.joined.takeReference o).settleRepeat

theorem exec_openingFrame (hrun : s.supply.power = .running) (hfinished : s.line.finished = some (.opening o))
    (hmine : s.line.role = .transmitter ∨ o.addr ≠ s.address) :
    exec (.openingFrame o) s = .next (if s.line.stuck then s.completeFrame.frameEnded else s.referenced o).askSleep := by
  rw [exec, execOpeningFrame, whenRunning_of_running _ hrun, if_pos hfinished, State.openingCompletes_of_mine hmine]
  rfl

theorem State.referenced_round : (s.referenced o).round = { s.round with
    t0 := s.line.frameStart, tempo := o.tempo, number := o.round, adopted := true, referenced := true, missed := false
    lastValid := some s.clock
    participation := if s.round.participation = .listen then .member else s.round.participation
    joinTimer := if s.round.participation = .listen then none else s.round.joinTimer
    timer := if s.round.participation = .muted then none
      else some (s.line.frameStart + period o.tempo + 2 * (s.address.val + 1) * 3200)
    closePending := true, loweringPending := true, raisingPending := true, reportPending := true, loweringDue := false
    raisingDue := false
    owedLowering := s.completeFrame.joined.owesLowering && (s.share.inFlight || s.round.closePending)
    viewOutage := if s.round.closePending then outageSeen s.peers.records else s.round.viewOutage } := by
  obtain ⟨-, -, -, hstart, -⟩ := s.line.ended_reread
  have hround : s.completeFrame.joined.round = { s.round with
      lastValid := some s.clock
      participation := if s.round.participation = .listen then .member else s.round.participation
      joinTimer := if s.round.participation = .listen then none else s.round.joinTimer } := by simp [State.joined]
  have hskew : s.completeFrame.joined.skew = 2 * (s.address.val + 1) * 3200 := by simp [State.skew_eq, State.address]
  have htimer : (if s.completeFrame.joined.round.participation = .member then
        some (s.completeFrame.joined.line.frameStart + period o.tempo + s.completeFrame.joined.skew) else none)
      = if s.round.participation = .muted then none
        else some (s.line.frameStart + period o.tempo + 2 * (s.address.val + 1) * 3200) := by
    by_cases hmuted : s.round.participation = .muted
    · have hnot : s.completeFrame.joined.round.participation ≠ .member := by rw [hround]; simp [hmuted]
      rw [if_neg hnot, if_pos hmuted]
    · have hmember : s.completeFrame.joined.round.participation = .member :=
        s.completeFrame.joined_member.2 (by simpa using hmuted)
      rw [if_pos hmember, if_neg hmuted, hskew]
      simp [hstart]
  have htaken := s.completeFrame.joined.takeReference_round o
  rw [htimer, hround] at htaken
  simp only [State.referenced, State.settleRepeat_frame, htaken]
  simp [hstart]

theorem State.referenced_supply : (s.referenced o).supply = { s.supply with sleepRequest := false, sleepFrame := .none } := by
  obtain ⟨-, hsupply, -⟩ := s.completeFrame.joined.referenceTaken_frame o
  simp only [State.referenced, State.settleRepeat_frame, State.takeReference_eq, State.pointsPending, State.snapshotIfMember]
  split
  · simpa using hsupply
  · simpa using hsupply

/-- The line controller at the end of a taken opening frame, but for what the snapshot queues. -/
def State.lineReferenced : LineState := s.completeFrame.joined.lineAtReference

theorem State.lineReferenced_eq : s.lineReferenced = { s.line.ended.reread with
    queue := if s.round.closePending then [] else s.line.ended.reread.queue.filter Frame.isNotice
    failed := s.lineReferenced.failed
    unsent := if s.round.closePending then min 255 (s.line.ended.reread.unsent + (s.line.ended.reread.queue.filter Frame.isNotice).length)
      else s.line.ended.reread.unsent } := by
  have hdropped : s.lineReferenced = if s.round.closePending then s.line.ended.reread.dropOpenings.dropNotices
      else s.line.ended.reread.dropOpenings := by simp [State.lineReferenced, State.lineAtReference, State.joined]
  rw [hdropped]
  split
  · simp [LineState.dropNotices_eq, LineState.dropOpenings, LineState.withQueue]
  · rfl

/-- The state a snapshot at a reference freezes (R57, R151). -/
def State.countedAtReference : State := (s.completeFrame.joined.referenceTaken o).countCarry

theorem State.referenced_line : (s.referenced o).line = if s.round.participation = .muted then s.lineReferenced
    else s.lineReferenced.withQueue (s.lineReferenced.queue ++ (s.countedAtReference o).snapshotNotices) := by
  simp only [State.referenced, State.settleRepeat_frame, State.takeReference_line, State.joined_member, ite_not, State.completeFrame_round]
  rfl

/-- What the line controller keeps of a completed frame at a reference. -/
theorem State.referenced_line_frame : (s.referenced o).line = { s.line.ended.reread with
    queue := (s.referenced o).line.queue, failed := (s.referenced o).line.failed, unsent := s.lineReferenced.unsent } := by
  rw [State.referenced_line]
  split
  · rw [State.lineReferenced_eq]
  · rw [State.lineReferenced_eq]
    rfl

/-- The early opening rule (R14), by what it finds. -/
theorem State.joined_owesLowering : s.completeFrame.joined.owesLowering = true
    ↔ s.round.participation ≠ .muted ∧ (s.round.loweringPending = true ∨ s.round.owedLowering = true) := by
  have hround : s.completeFrame.joined.round.loweringPending = s.round.loweringPending
      ∧ s.completeFrame.joined.round.owedLowering = s.round.owedLowering := by simp [State.joined]
  obtain ⟨hpending, howed⟩ := hround
  rw [State.owesLowering, hpending, howed]
  simp [State.joined_member]

theorem State.countedAtReference_frame : (s.countedAtReference o).supply.mains = s.supply.mains
    ∧ (s.countedAtReference o).address = s.address ∧ (s.countedAtReference o).round.tempo = o.tempo
    ∧ (s.countedAtReference o).demand.lastCharge = s.demand.lastCharge := by
  obtain ⟨-, hsupply, htempo, -, -, hdemand, -⟩ := s.completeFrame.joined.referenceTaken_frame o
  simp [State.countedAtReference, hsupply, htempo, hdemand, State.address]

theorem State.referenced_of_joined (hjoined : s.round.participation ≠ .muted) :
    s.referenced o = (s.countedAtReference o).freezeClaims.pointsPending.settleRepeat := by
  rw [State.referenced, State.takeReference_of_member (s.completeFrame.joined_member.2 (by simpa using hjoined))]
  rfl

end

end Sys2Proof.Machine

end

section
/-! ## The opening frame is the reference -/

namespace Sys2Proof.Machine

section
variable {s : State} (o : Opening)

/-- The snapshot of a reference: the claims as the station then stands, and the notices behind what is left in the queue (R57, R64, R69). -/
theorem State.referenced_snapshot {t : State} (ht : t = s.referenced o) (hjoined : s.round.participation ≠ .muted)
    (hagrees : ConfinementAgrees s) :
    let mine (c : ClaimClass) (x : Nat) : Frame := .notice
      { cls := c, addr := s.address, request := BitVec.ofNat 8 x, estimate := BitVec.ofNat 12 t.budgetEstimate, outage := s.supply.mains }
    let left := (if s.line.role = .transmitter then s.line.queue.tail else s.line.queue).filter Frame.isNotice
    t.demand.claims = some
        { feedClass := t.feedClaim.1, feedRequest := t.feedRequest, charge := t.chargeClaim, estimate := t.budgetEstimate
          outage := s.supply.mains }
      ∧ t.demand.lastCharge = t.chargeClaim.map Prod.fst ∧ t.demand.carryFormed = decide (t.feedClaim.1 = .test)
      ∧ t.line.queue = (if s.round.closePending then [] else left) ++ mine t.feedClaim.1 t.feedRequest ::
          (if o.tempo = .slow ∧ s.supply.mains = .present then []
          else match t.chargeClaim with
            | some c => [mine c.1 c.2]
            | none => (s.demand.lastCharge.map fun c => mine c 0).toList) := by
  intro mine left
  obtain ⟨hmains, haddress, htempo, hlast⟩ := s.countedAtReference_frame o
  obtain ⟨hfeed, hrequest, hcharge, hestimate, hdemand, -⟩ := State.freezeClaims_claims _ t (ht.trans (s.referenced_of_joined o hjoined))
  have hmine (c : ClaimClass) (x : Nat) : mine c x = .notice ((s.countedAtReference o).ownNotice c x) := by
    simp only [mine, State.ownNotice, hmains, haddress, hestimate]
  refine ⟨?_, ?_, ?_, ?_⟩
  · rw [hdemand, hfeed, hrequest, hcharge, hestimate, ← hmains, State.freezeClaims_demand]
  · rw [hdemand, hcharge, State.freezeClaims_demand]
  · rw [hdemand, hfeed, State.freezeClaims_demand]
  · obtain ⟨-, -, hqueue, -⟩ := hagrees.ended_line
    have hnotices := (s.countedAtReference o).snapshotNotices_eq
    rw [htempo, hmains, hlast, ← hfeed, ← hrequest, ← hcharge] at hnotices
    have hline : t.line.queue = s.lineReferenced.queue ++ (s.countedAtReference o).snapshotNotices := by
      rw [ht, State.referenced_line, if_neg hjoined]
      simp only [LineState.withQueue_queue]
    rw [hline, hnotices, State.lineReferenced_eq, hqueue]
    simp only [hmine]
    cases t.chargeClaim <;> rfl

/-- A carry request that stands is settled by the snapshot of a reference (R151). -/
theorem State.referenced_carry (hjoined : s.round.participation ≠ .muted) (hcarry : s.test.carry = true) (hfree : s.test.context = none)
    (hhand : s.test.inHand = none) :
    (s.test.carryCount < 30 → (s.referenced o).test.carry = true ∧ (s.referenced o).test.carryCount = s.test.carryCount + 1)
      ∧ (30 ≤ s.test.carryCount → (s.referenced o).test.carry = false ∧ (s.referenced o).test.carryCount = 0
          ∧ (s.referenced o).test.due = false ∧ (s.referenced o).test.schedule = some (s.clock + 600 * 3200000)
          ∧ (s.referenced o).test.results.head? = some
              { kind := .pulse, verdict := .deferred, value := none, round := o.round, band := s.batt.band }) := by
  obtain ⟨-, -, -, -, -, htest⟩ := State.freezeClaims_claims _ _ (s.referenced_of_joined o hjoined)
  have hcompleted : s.completeFrame.joined.test = s.test := State.completeFrame_of_free hfree
  obtain ⟨hnone, hstands, hcount, hkept⟩ := State.referenceTaken_of_free (s := s.completeFrame.joined) (o := o) (by rw [hcompleted, hfree])
    (by rw [hcompleted, hcarry])
  obtain ⟨hclock, -, -, hnumber, -, -, -, hband⟩ := s.completeFrame.joined.referenceTaken_frame o
  have hsame : s.completeFrame.joined.clock = s.clock ∧ s.completeFrame.joined.batt.band = s.batt.band := by simp
  rw [hsame.1] at hclock
  rw [hsame.2] at hband
  obtain ⟨hraised, hdeferred⟩ := State.countCarry_settles hstands hnone (by rw [hkept, hcompleted, hhand])
  rw [hcount, hcompleted] at hraised hdeferred
  rw [hclock, hnumber, hband] at hdeferred
  rw [htest]
  refine ⟨fun h => ?_, fun h => ?_⟩
  · rw [State.countedAtReference, hraised h]
    exact ⟨hstands, rfl⟩
  · exact hdeferred h

end

/-- A valid opening frame finds the station's line neither stuck nor of its own address (R9). -/
theorem openingFrame_taken (o : Opening) (s : State) (hrun : s.supply.power = .running) (hfinished : s.line.finished = some (.opening o))
    (hfree : s.line.stuck = false) (hmine : s.line.role = .transmitter ∨ o.addr ≠ s.address) :
    exec (.openingFrame o) s = .next (s.referenced o) := by
  rw [exec_openingFrame s o hrun hfinished hmine, hfree, if_neg (by simp), State.askSleep_of_no_request]
  rw [State.referenced_supply]

section
variable (s : State) (o : Opening)

theorem State.referenced_frame : (s.referenced o).clock = s.clock ∧ (s.referenced o).pins = s.pins ∧ (s.referenced o).pending = s.pending
    ∧ (s.referenced o).status.frame = s.status.frame ∧ (s.referenced o).status.pending = s.status.pending
    ∧ (s.referenced o).peers = (if s.round.closePending then s.peers.assemble else s.peers).examine o.round := by
  have hclose : s.completeFrame.joined.round.closePending = s.round.closePending := by simp [State.joined]
  have hpeers := s.completeFrame.joined.takeReference_peers o
  rw [hclose] at hpeers
  obtain ⟨hframe, hpending⟩ : (s.referenced o).status.frame = s.status.frame ∧ (s.referenced o).status.pending = s.status.pending := by
    rw [State.referenced, State.settleRepeat_eq]
    simp
  refine ⟨?_, ?_, ?_, hframe, hpending, ?_⟩ <;> simp only [State.referenced, State.settleRepeat_frame, State.takeReference_frame,
    State.joined_frame, State.completeFrame_frame, hpeers]

theorem State.referenced_share : (s.referenced o).share
    = ({ s.completeFrame.joined with line := s.completeFrame.joined.line.dropOpenings } : State).settlePrevious.share := by
  simp only [State.referenced, State.settleRepeat_frame, State.takeReference_eq, State.pointsPending, State.snapshotIfMember]
  split <;> simp [State.referenceTaken, State.referenceAdopted]

/-- A close event that an early opening finds pending starts the computation, to which its lowering is then owed (R12, R14). -/
theorem State.settlePrevious_inFlight {s : State} (hclose : s.round.closePending = true) : s.settlePrevious.share.inFlight = true := by
  have hstarted : s.closedIfPending.share.inFlight = true := by simp [hclose]
  rw [State.settlePrevious_eq]
  dsimp only
  rw [if_pos hstarted]
  split <;> exact hstarted

theorem State.referenced_inFlight (hclose : s.round.closePending = true) : (s.referenced o).share.inFlight = true := by
  rw [State.referenced_share]
  exact State.settlePrevious_inFlight (by simpa [State.joined] using hclose)

/-- What an early opening makes of the grants in force (R14). -/
theorem State.referenced_grants : ((s.referenced o).share.feedGrant
      = if s.completeFrame.joined.owesLowering && !(s.share.inFlight || s.round.closePending)
        then min s.share.feedGrant s.share.computedFeed else s.share.feedGrant)
    ∧ (s.referenced o).share.chargeGrant
      = if s.completeFrame.joined.owesLowering && !(s.share.inFlight || s.round.closePending)
        then min s.share.chargeGrant s.share.computedCharge else s.share.chargeGrant := by
  have hclose : s.completeFrame.joined.round.closePending = s.round.closePending := by simp [State.joined]
  simp [State.referenced, hclose]

theorem State.referenced_timeBase {tb : TimeBase} (hbase : s.conv.timeBase = some tb) : (s.referenced o).conv.timeBase =
    some { nextPeriod := nextBoundary s.line.frameStart s.clock + 4 * (s.address.val % 16), nextMeasure := s.line.frameStart + 3 * 3200 } := by
  obtain ⟨-, -, -, hstart, -⟩ := s.line.ended_reread
  have htaken := State.referenceTaken_timeBase (s := s.completeFrame.joined) (o := o) (tb := tb) (by simpa using hbase)
  have hkept : (s.referenced o).conv = (s.completeFrame.joined.referenceTaken o).conv := by
    simp only [State.referenced, State.settleRepeat_frame, State.takeReference_eq, State.pointsPending, State.snapshotIfMember]
    split <;> simp
  rw [hkept, htaken]
  simp [hstart, State.switchOffset, State.address, ms]

theorem State.referenced_claimsOpen (hjoined : s.round.participation ≠ .muted) : (s.referenced o).demand.claimsOpen = true := by
  obtain ⟨-, -, -, -, hdemand, -⟩ := State.freezeClaims_claims _ _ (s.referenced_of_joined o hjoined)
  rw [hdemand, State.freezeClaims_demand]

/-- The notices that a close event left over removes count as unsent (R12, R90). -/
theorem State.referenced_unsent (hagrees : ConfinementAgrees s) : (s.referenced o).line.unsent =
    if s.round.closePending then min 255 (s.line.unsent
      + ((if s.line.role = .transmitter then s.line.queue.tail else s.line.queue).filter Frame.isNotice).length) else s.line.unsent := by
  obtain ⟨-, -, hqueue, -⟩ := hagrees.ended_line
  have hunsent : s.line.ended.reread.unsent = s.line.unsent := by
    rw [LineState.reread_of_kept hagrees.ended]
    rfl
  rw [State.referenced_line_frame, State.lineReferenced_eq, hqueue, hunsent]

/-- The lowering of the round before, applied at once where no computation is to come, and owed to it otherwise (R14). -/
theorem State.referenced_owes :
    let owed : Prop := s.round.participation ≠ .muted ∧ (s.round.loweringPending = true ∨ s.round.owedLowering = true)
    let waits : Prop := s.share.inFlight = true ∨ s.round.closePending = true
    ((s.referenced o).round.owedLowering = true ↔ owed ∧ waits)
      ∧ (owed → ¬ waits → (s.referenced o).share.feedGrant = min s.share.feedGrant s.share.computedFeed
          ∧ (s.referenced o).share.chargeGrant = min s.share.chargeGrant s.share.computedCharge)
      ∧ ((¬ owed ∨ waits) → (s.referenced o).share.feedGrant = s.share.feedGrant
          ∧ (s.referenced o).share.chargeGrant = s.share.chargeGrant) := by
  intro owed waits
  have howes : s.completeFrame.joined.owesLowering = true ↔ owed := s.joined_owesLowering
  have hwaits : (s.share.inFlight || s.round.closePending) = true ↔ waits := Bool.or_eq_true_iff
  have hcomes : (s.completeFrame.joined.owesLowering && !(s.share.inFlight || s.round.closePending)) = true ↔ owed ∧ ¬ waits := by
    rw [Bool.and_eq_true, Bool.not_eq_true', howes, ← Bool.not_eq_true, hwaits]
  obtain ⟨hfeed, hcharge⟩ := s.referenced_grants o
  rw [hfeed, hcharge, State.referenced_round]
  refine ⟨?_, fun howed hnot => ?_, fun hnot => ?_⟩
  · rw [Bool.and_eq_true, howes, hwaits]
  · rw [if_pos (hcomes.2 ⟨howed, hnot⟩), if_pos (hcomes.2 ⟨howed, hnot⟩)]
    exact ⟨rfl, rfl⟩
  · have hstays : ¬ (owed ∧ ¬ waits) := fun ⟨howed, hfree⟩ => hnot.elim (· howed) hfree
    rw [if_neg (mt hcomes.1 hstays), if_neg (mt hcomes.1 hstays)]
    exact ⟨rfl, rfl⟩

end

/-! ### An opening frame that finds the line stuck (R107) -/

section
variable {s : State} (hagrees : ConfinementAgrees s)

include hagrees

theorem ConfinementAgrees.completed_frame : s.completeFrame.test = s.test ∧ s.completeFrame.term = s.term ∧ s.completeFrame.batt = s.batt
    ∧ s.completeFrame.closeDue = s.closeDue ∧ s.completeFrame.timerExpired = s.timerExpired ∧ s.completeFrame.suppressed = true := by
  rw [hagrees.completeFrame]
  exact ⟨rfl, rfl, rfl, rfl, rfl, State.suppressed_of_now rfl⟩

/-- A completed frame that is not taken: what waited for its end takes place, the round timer suppressed by the frame itself (R6, R12). -/
theorem ConfinementAgrees.frameEnded_frame :
    s.completeFrame.frameEnded.line = (if s.closeDue then s.line.ended.reread.dropNotices else s.line.ended.reread)
    ∧ s.completeFrame.frameEnded.round = { s.round with
        lastValid := some s.clock
        missed := s.timerExpired || s.round.missed
        timer := if s.timerExpired then some (s.clock + period s.round.tempo + 2 * (s.address.val + 1) * 3200) else s.round.timer
        closePending := s.round.closePending && !s.closeDue
        viewOutage := if s.closeDue then outageSeen s.peers.records else s.round.viewOutage }
    ∧ s.completeFrame.frameEnded.peers = if s.closeDue then s.peers.assemble else s.peers := by
  obtain ⟨-, -, -, hdue, hexpired, hsuppressed⟩ := hagrees.completed_frame
  have hround := s.completeFrame.frameEnded_round
  have hpeers := s.completeFrame.frameEnded_peers
  rw [hdue, hexpired, hsuppressed, State.skew_eq] at hround
  rw [hdue] at hpeers
  refine ⟨?_, ?_, ?_⟩
  · rw [State.frameEnded_line_of_suppressed hsuppressed, State.closedIfDue_line, hdue]
    simp
  · obtain ⟨hclock, hsupply, -⟩ := s.completeFrame_frame
    rw [hround, Bool.and_true, State.address, hclock, hsupply, hagrees.completeFrame]
    rfl
  · rw [hpeers]
    simp

end

/-- Settles O18. -/
theorem openingFrameIsReference : Obligations.OpeningFrameIsReference := by
  refine ⟨fun o s hrun hfinished hfree hmine => ?_, fun o s hrun hfinished hstuck hmine hagrees => ?_⟩
  · obtain ⟨hphase, hrole, hdriver, -, -, htx, hrx, hunheard⟩ := s.line.ended_reread
    obtain ⟨hclock, hpins, hpending, hframe, hstatus, hpeers⟩ := s.referenced_frame o
    have hround := s.referenced_round o
    have hline := s.referenced_line_frame o
    have hexec := openingFrame_taken o s hrun hfinished hfree hmine
    have hsupply := s.referenced_supply o
    have hbases (tb : TimeBase) (h : s.conv.timeBase = some tb) := s.referenced_timeBase o h
    have hinFlight := s.referenced_inFlight o
    have hcarries := State.referenced_carry (s := s) o
    have hopens := s.referenced_claimsOpen o
    have hunsent := s.referenced_unsent o
    have howes := s.referenced_owes o
    generalize ht : s.referenced o = t at *
    refine ⟨t, hexec, ?_⟩
    refine ⟨by rw [hround], by rw [hround], by rw [hround], by rw [hround], by rw [hround], by rw [hround], by rw [hround], by rw [hround],
      by rw [hround], by rw [hround], by rw [hround], by rw [hround], by rw [hround],
      hopens, by rw [hline, hphase], by rw [hline, hrole], by rw [hline, hdriver], by rw [hline, htx], by rw [hline, hrx],
      by rw [hline, hunheard], fun hclose => ?_, fun hjoined hagrees => State.referenced_snapshot o ht.symm hjoined hagrees,
      hcarries, by rw [hround], by rw [hround], fun hclose => ?_, hunsent, ?_,
      fun tb hbase => ?_, hsupply, hframe, hstatus, hpins, hclock, hpending⟩
    · rw [hpeers, hclose, if_neg (by simp)]
      exact ⟨s.peers.examine_records o.round, s.peers.examine_heard o.round⟩
    · refine ⟨?_, hinFlight hclose⟩
      rw [hpeers, hclose, if_pos rfl]
      rfl
    · exact howes
    · obtain ⟨k, hnext, hlate, hfirst⟩ := nextBoundary_first s.line.frameStart s.clock
      exact ⟨_, k, hbases tb hbase, rfl, congrArg (· + 4 * (s.address.val % 16)) hnext, hlate, hfirst⟩
  · refine ⟨s.completeFrame.frameEnded, ?_, ?_⟩
    · rw [exec_openingFrame s o hrun hfinished hmine, hstuck, if_pos rfl]
    · obtain ⟨hline, hround, hpeers⟩ := hagrees.frameEnded_frame
      obtain ⟨htest, hterm, hbatt, hdue, -⟩ := hagrees.completed_frame
      obtain ⟨hphase, hrole, -, -, -, htx, hrx, -⟩ := s.line.ended_reread
      have hkept {α : Type} (f : LineState → α) (hf : ∀ l : LineState, f l.dropNotices = f l) :
          f s.completeFrame.frameEnded.line = f s.line.ended.reread := by
        rw [hline]
        split
        · exact hf _
        · rfl
      refine ⟨?_, ?_, ?_, ?_, ?_, fun hnot => ?_, fun hcloses => ⟨?_, ?_⟩⟩
      · rw [hkept LineState.phase fun l => by rw [l.dropNotices_eq], hphase]
      · rw [hkept LineState.role fun l => by rw [l.dropNotices_eq], hrole]
      · rw [hkept LineState.txErrors fun l => by rw [l.dropNotices_eq], htx]
      · rw [hkept LineState.rxErrors fun l => by rw [l.dropNotices_eq], hrx]
      · rw [hround]
      · have hends := s.completeFrame.frameEnded_of_not_due (by rw [hdue, hnot])
        have hview : s.completeFrame.frameEnded.round.viewOutage = s.round.viewOutage := by
          rw [hround, hnot]
          rfl
        rw [← hview]
        refine hends.trans ?_
        apply State.eq_of_blocks <;> simp [htest, hterm, hbatt]
      · rw [hpeers, hcloses, if_pos rfl]
        rfl
      · apply State.eq_of_blocks <;> simp [htest, hterm]

end Sys2Proof.Machine

end
